-- ==== Sys2Proof/Word.lean ====
section
/-! DEFINITION. The words of the machine: 32-bit words, bytes, register numbers (00_scope.md R2, R3; 10_state.md R10). -/

namespace Sys2Proof

/-- A general register, an address or an instruction word: `XLEN = 32` (00_scope.md R3). -/
abbrev Word := BitVec 32

/-- The unit of memory: a virtual or physical address names one byte (20_memory.md R30, R31). -/
abbrev Byte := BitVec 8

/-- A register number: a 5-bit field of the instruction; every value names a register (10_state.md R10). -/
abbrev Reg := BitVec 5

end Sys2Proof
end

