-- ==== Sys2Proof/Machine/Flags.lean ====
section
/-! DEFINITION. The CPU has no flags (10_state.md R20); the one condition computed beside a result is two's-complement
overflow, which is an exception (41_computational.md R131, R132, R136). -/

namespace Sys2Proof.Machine

/-- Bit 31, the sign of a word (00_scope.md R9). -/
def signBit (v : Word) : Bool := v.getLsbD 31

/-- ADD, ADDI: the operands have one sign and the sum has the other (41_computational.md R132). -/
def addOverflows (a b : Word) : Bool := signBit a == signBit b && signBit (a + b) != signBit a

/-- SUB: the operands differ in sign and the difference has not the first one's (41_computational.md R136). -/
def subOverflows (a b : Word) : Bool := signBit a != signBit b && signBit (a - b) != signBit a

/-- The carry out of bit `k` of `a + b + carryIn`: the form in which the source states the overflow condition, "the two
highest order carry-out bits differ" (41_computational.md R131). -/
def carryOut (k : Nat) (a b : Word) (carryIn : Bool) : Bool :=
  decide (2 ^ (k + 1) ≤ a.toNat % 2 ^ (k + 1) + b.toNat % 2 ^ (k + 1) + carryIn.toNat)

end Sys2Proof.Machine
end

