-- ==== Sys2Proof/Config.lean ====
section
/-! DEFINITION. What is fixed for a run (00_scope.md R4 to R6; 92_eei_decisions.md, "Open parameters in one place"),
the names of the exceptions, and the free values: constants with no body, which nothing can evaluate. -/

namespace Sys2Proof

/-- The two implementation groups (00_scope.md R5). -/
inductive Impl where
  | r2000R3000
  | r4000R6000
  deriving DecidableEq, Repr

/-- What a memory reference is for: the pair (IorD, LorS) of 20_memory.md R32. `fetch` is (INSTRUCTION, LOAD),
`load` is (DATA, LOAD), `store` is (DATA, STORE). Also the `access` of an exception (60_exceptions.md R220). -/
inductive Access where
  | fetch
  | load
  | store
  deriving DecidableEq, Repr

/-- The exceptions the spec names (60_exceptions.md R210). -/
inductive ExceptionKind where
  | overflow
  | breakpoint
  | addressError
  | tlbRefill
  | tlbInvalid
  | tlbModification
  | busError
  | reservedInstruction
  deriving DecidableEq, Repr

/-- The exceptions AddressTranslation can raise (20_memory.md R32). -/
inductive TranslationFault where
  | tlbRefill
  | tlbInvalid
  | tlbModification
  | addressError
  deriving DecidableEq, Repr

/-- What AddressTranslation answers for the addresses of one mapping: the physical word that holds the first byte
of the range, with the `uncached` bit, or an exception (20_memory.md R32). -/
inductive MapResult where
  | mapped (frame : Nat) (uncached : Bool)
  | raises (fault : TranslationFault)
  deriving DecidableEq, Repr

/-- One piece of AddressTranslation: what it answers for the virtual byte addresses `first` to `last` and the
kinds of reference listed. A range of one byte is allowed, so every function of 20_memory.md R32 is a list of
these (log 2). -/
structure Mapping where
  first : Word
  last : Word
  refs : List Access
  result : MapResult
  deriving DecidableEq, Repr

/-- The arguments of the model, constant for a run (00_scope.md R4 to R6). `UserMode` and `SR_28` are the fields
`mode` and `sr` of State (log 17). -/
structure Config where
  /-- Which implementation group (R5). -/
  impl : Impl
  /-- `BigEndianMem` (R4). -/
  bigEndianMem : Bool
  /-- `PSIZE` (R6). -/
  psize : Nat
  /-- `AddressTranslation` (20_memory.md R32), first match wins; an address of no mapping translates to itself. -/
  mappings : List Mapping
  /-- `BusError` (20_memory.md R53): ranges of physical byte addresses, both ends included. -/
  busErrors : List (Nat × Nat)
  deriving DecidableEq, Repr

/-- FREE VALUE. The content of a register the spec calls undefined (70_reset_and_hazards.md R255, R260). The first
argument is the state's counter, the second the place of use inside one instruction. Safe: nothing constrains it
(log 7, 8, 19). -/
opaque Config.freeWord : Nat → Nat → Word

/-- FREE VALUE. What the byte at a physical address holds while nothing has given it a value: arbitrary, fixed for
the run (92_eei_decisions.md D8). Safe: nothing constrains it (log 6). -/
opaque Config.launchByte : Nat → Byte

end Sys2Proof
end

