-- ==== Sys2Proof/Machine/Launch.lean ====
section
/-! DEFINITION. The values at the start of a run that the spec leaves to the launch premise or to an argument of the
model (10_state.md R29, 70_reset_and_hazards.md R251). -/

namespace Sys2Proof.Machine

/-- The arguments of the model at reset. `psize`, `mappings` (identity translation) and `busErrors` are the values
92_eei_decisions.md gives for every vector that says nothing else; `impl` and `bigEndianMem` are a DESIGN CHOICE, the
spec leaves them open (log 1). -/
def launchConfig : Config :=
  { impl := .r2000R3000, bigEndianMem := true, psize := 32, mappings := [], busErrors := [] }

/-- `EntryPC`. PRESUMED: the family's reset vector, named by 10_state.md R29 as general knowledge (log 5). -/
def launchPc : Word := 0xBFC00000#32

/-- Every register, and every other register-like piece of state the spec gives no value for, holds this at reset.
DESIGN CHOICE (log 4, 17, 18). -/
def launchWord : Word := 0#32

end Sys2Proof.Machine
end

