-- ==== Sys2Proof/Syntax.lean ====
section
/-! DEFINITION. The instructions: one constructor per row of spec/opcode_table.json, in the table's order, the operands
in the assembler's order (30_encoding.md R73). The widths of the fields are those of R61, so that no operand value is
outside its field. -/

namespace Sys2Proof

/-- What the opcode map selects inside a COPz word by its `rs` field and, under BC, by its `rt` field (43_coprocessor.md
R191, 30_encoding.md R68, R70): the cell, with the bits the map leaves uninterpreted. The names are the map's; what the
cells do is in no source (43_coprocessor.md R192, R194). -/
inductive CopForm where
  /-- `rs = 00000`: move from a coprocessor general register. -/
  | mf (low : BitVec 21)
  /-- `rs = 00010`: move from a coprocessor control register. -/
  | cf (low : BitVec 21)
  /-- `rs = 00100`: move to a coprocessor general register. -/
  | mt (low : BitVec 21)
  /-- `rs = 00110`: move to a coprocessor control register. -/
  | ct (low : BitVec 21)
  /-- `rs = 01000`, `rt = 00000`: branch on coprocessor condition false. -/
  | bcf (low : BitVec 16)
  /-- `rs = 01000`, `rt = 00001`: branch on coprocessor condition true. -/
  | bct (low : BitVec 16)
  /-- `rs = 01000`, `rt = 00010`, marked beta: the likely form of BCF. -/
  | bcfl (low : BitVec 16)
  /-- `rs = 01000`, `rt = 00011`, marked beta: the likely form of BCT. -/
  | bctl (low : BitVec 16)
  /-- Bit 25 set: a coprocessor operation, whose remaining 25 bits are coprocessor-defined. -/
  | co (operation : BitVec 25)
  /-- A cell marked gamma of the `rs` table. -/
  | gammaRs (rs : Reg) (low : BitVec 21)
  /-- A cell marked gamma of the `rt` table, under BC. -/
  | gammaRt (rt : Reg) (low : BitVec 16)
  /-- A cell of the lost column 7 of the `rs` table (30_encoding.md R64). -/
  | lostRs (rs : Reg) (low : BitVec 21)
  /-- A cell of the lost column 7 of the `rt` table, under BC (30_encoding.md R64). -/
  | lostRt (rt : Reg) (low : BitVec 16)
  deriving DecidableEq, Repr

/-- The instructions. The first 43 are described; the last 49 are named only and keep their uninterpreted bits
(30_encoding.md R68): `rest` is every bit the opcode map's row does not fix, from the top down. What the map selects
inside the `rest` of a COPz word is its `CopForm` (Machine/CopForm.lean). -/
inductive Instr where
  | add (rd rs rt : Reg)
  | addi (rt rs : Reg) (imm : BitVec 16)
  | addiu (rt rs : Reg) (imm : BitVec 16)
  | addu (rd rs rt : Reg)
  | and (rd rs rt : Reg)
  | andi (rt rs : Reg) (imm : BitVec 16)
  | beq (rs rt : Reg) (offset : BitVec 16)
  | bne (rs rt : Reg) (offset : BitVec 16)
  | brk (code : BitVec 20)
  | j (target : BitVec 26)
  | jal (target : BitVec 26)
  | jalr (rd rs : Reg)
  | jr (rs : Reg)
  | lb (rt : Reg) (offset : BitVec 16) (base : Reg)
  | lbu (rt : Reg) (offset : BitVec 16) (base : Reg)
  | lh (rt : Reg) (offset : BitVec 16) (base : Reg)
  | lhu (rt : Reg) (offset : BitVec 16) (base : Reg)
  | lui (rt : Reg) (imm : BitVec 16)
  | lw (rt : Reg) (offset : BitVec 16) (base : Reg)
  | lwl (rt : Reg) (offset : BitVec 16) (base : Reg)
  | lwr (rt : Reg) (offset : BitVec 16) (base : Reg)
  | nor (rd rs rt : Reg)
  | or (rd rs rt : Reg)
  | ori (rt rs : Reg) (imm : BitVec 16)
  | sb (rt : Reg) (offset : BitVec 16) (base : Reg)
  | sh (rt : Reg) (offset : BitVec 16) (base : Reg)
  | sll (rd rt : Reg) (sa : BitVec 5)
  | sllv (rd rt rs : Reg)
  | slt (rd rs rt : Reg)
  | slti (rt rs : Reg) (imm : BitVec 16)
  | sltiu (rt rs : Reg) (imm : BitVec 16)
  | sltu (rd rs rt : Reg)
  | sra (rd rt : Reg) (sa : BitVec 5)
  | srav (rd rt rs : Reg)
  | srl (rd rt : Reg) (sa : BitVec 5)
  | srlv (rd rt rs : Reg)
  | sub (rd rs rt : Reg)
  | subu (rd rs rt : Reg)
  | sw (rt : Reg) (offset : BitVec 16) (base : Reg)
  | swl (rt : Reg) (offset : BitVec 16) (base : Reg)
  | swr (rt : Reg) (offset : BitVec 16) (base : Reg)
  | xor (rd rs rt : Reg)
  | xori (rt rs : Reg) (imm : BitVec 16)
  -- named only (30_encoding.md R68): primary opcodes, then SPECIAL functions, then REGIMM `rt` codes
  | blez (rest : BitVec 26)
  | cop0 (rest : BitVec 26)
  | cop1 (rest : BitVec 26)
  | cop2 (rest : BitVec 26)
  | cop3 (rest : BitVec 26)
  | beql (rest : BitVec 26)
  | bnel (rest : BitVec 26)
  | blezl (rest : BitVec 26)
  | ll (rest : BitVec 26)
  | lwc1 (rest : BitVec 26)
  | lwc2 (rest : BitVec 26)
  | lwc3 (rest : BitVec 26)
  | ldc1 (rest : BitVec 26)
  | ldc2 (rest : BitVec 26)
  | sc (rest : BitVec 26)
  | swc1 (rest : BitVec 26)
  | swc2 (rest : BitVec 26)
  | swc3 (rest : BitVec 26)
  | sdc1 (rest : BitVec 26)
  | sdc2 (rest : BitVec 26)
  | syscall (rest : BitVec 20)
  | mfhi (rest : BitVec 20)
  | mthi (rest : BitVec 20)
  | mflo (rest : BitVec 20)
  | mtlo (rest : BitVec 20)
  | mult (rest : BitVec 20)
  | multu (rest : BitVec 20)
  | div (rest : BitVec 20)
  | divu (rest : BitVec 20)
  | tge (rest : BitVec 20)
  | tgeu (rest : BitVec 20)
  | tlt (rest : BitVec 20)
  | tltu (rest : BitVec 20)
  | teq (rest : BitVec 20)
  | tne (rest : BitVec 20)
  | bltz (high : BitVec 5) (low : BitVec 16)
  | bgez (high : BitVec 5) (low : BitVec 16)
  | bltzal (high : BitVec 5) (low : BitVec 16)
  | bgezal (high : BitVec 5) (low : BitVec 16)
  | bltzl (high : BitVec 5) (low : BitVec 16)
  | bgezl (high : BitVec 5) (low : BitVec 16)
  | tgei (high : BitVec 5) (low : BitVec 16)
  | teqi (high : BitVec 5) (low : BitVec 16)
  | tnei (high : BitVec 5) (low : BitVec 16)
  | bltzall (high : BitVec 5) (low : BitVec 16)
  | bgezall (high : BitVec 5) (low : BitVec 16)
  | tgeiu (high : BitVec 5) (low : BitVec 16)
  | tlti (high : BitVec 5) (low : BitVec 16)
  | tltiu (high : BitVec 5) (low : BitVec 16)
  deriving DecidableEq, Repr

end Sys2Proof
end

