-- ==== Sys2Proof/Machine/State.lean ====
section
/-! DEFINITION. The state of the machine (10_state.md, the tuple at its head, and R10 to R28), the reasons a step can
stop, and the state after reset (R29). -/

namespace Sys2Proof.Machine

/-- The three modes the spec names (10_state.md R28). -/
inductive Mode where
  | kernel
  | supervisor
  | user
  deriving DecidableEq, Repr

/-- What an instruction raises (60_exceptions.md R220): the exception, the virtual address for the address and TLB
exceptions, and the access for the memory-related ones. -/
structure Raise where
  kind : ExceptionKind
  badVAddr : Option Word
  access : Option Access
  deriving DecidableEq, Repr

/-- What the outcome `Exception(kind, EPC, BD, BadVAddr, access)` of 60_exceptions.md R220 holds beside EPC, which
is the register `State.epc`. -/
structure ExceptionInfo where
  kind : ExceptionKind
  /-- `BD`: the instruction that raised was in a delay slot (R217). -/
  bd : Bool
  badVAddr : Option Word
  access : Option Access
  deriving DecidableEq, Repr

/-- Why a step stops with a fault. -/
inductive Fault where
  /-- Raised by fetching in a state in which an exception has been taken: the run has ended with the outcome
  `Exception(kind, EPC, BD, BadVAddr, access)` and "The model does not continue into a handler" (60_exceptions.md
  R220, 70_reset_and_hazards.md R264 (a)). Safe (log 9). -/
  | exceptionOutcome (info : ExceptionInfo) (epc : Word)
  /-- Raised by BEQ, BNE, J, JAL, JR, JALR in a delay slot: "the results of such an operation are undefined"
  (70_reset_and_hazards.md R254). Safe (log 11). -/
  | jumpInDelaySlot
  /-- Raised by JALR with rs = rd: "the result of executing such an instruction is undefined" (70_reset_and_hazards.md
  R259). Safe (log 12). -/
  | jalrSameRegister
  deriving DecidableEq, Repr

/-- Why a step is refused. -/
inductive Refusal where
  /-- No meaning yet. Raised by no instruction of this model. Safe. -/
  | notModelled (mnemonic : String)
  /-- Raised by an instruction the spec only names: `REFUSE(<mnemonic> not described)` (44_special.md R202). Safe
  (log 13). -/
  | notDescribed (mnemonic : String)
  /-- Raised by a coprocessor load or store: `REFUSE(coprocessor instruction not described)` (43_coprocessor.md
  R194). Safe (log 13). -/
  | coprocessorNotDescribed (mnemonic : String)
  /-- Raised by a COPz word, with the cell that its `rs` and `rt` fields select: `REFUSE(coprocessor instruction not
  described)` (43_coprocessor.md R191, R194). Safe (log 13). -/
  | coprocessorFormNotDescribed (mnemonic : String) (form : CopForm)
  /-- Raised by a beta row on the R2000/R3000: not valid there and not trapped (30_encoding.md R70). Safe (log 14). -/
  | notValidOnR2000 (mnemonic : String)
  /-- Raised by a described instruction's opcode with a non-zero bit in a zero field (30_encoding.md R71). Safe
  (log 15). -/
  | nonzeroField (mnemonic : String)
  /-- Raised by an `X` cell of the opcode map (30_encoding.md R76). Safe (log 15). -/
  | unkeyedOpcode
  /-- Raised by a cell of the lost column 7 (30_encoding.md R64). Safe (log 15). -/
  | lostOpcode
  /-- Raised by the fetch of a word any byte of which a store of the run has written (20_memory.md R50). Safe
  (log 16). -/
  | storedInstruction
  deriving DecidableEq, Repr

/-- One coprocessor unit (10_state.md R24): 32 general registers `CPR[z,x]`, 32 control registers `CCR[z,x]`, the
condition signal `COC[z]`. -/
structure Coprocessor where
  general : Vector Word 32
  control : Vector Word 32
  condition : Bool
  deriving DecidableEq, Repr

/-- Physical memory: the bytes that have a value, addresses strictly rising (20_memory.md R31). -/
abbrev Memory := List Host.Cell

/-- The state of the machine. -/
structure State where
  /-- The general registers (10_state.md R10); register 0 is read through `State.readGpr`, which answers 0 (R11). -/
  regs : Vector Word 32
  /-- The address of the instruction being executed (R14, R15). -/
  pc : Word
  /-- The address of the instruction that executes next (R15). -/
  npc : Word
  /-- `in_delay`: the previous step executed a jump or branch (R17). -/
  inDelay : Bool
  /-- `pending`: the delayed write of a load (R18). -/
  pending : Option (Reg × Word)
  /-- Physical memory (20_memory.md R31). -/
  mem : Memory
  /-- The physical addresses written by a store during the run, strictly rising (20_memory.md R50). -/
  written : List Nat
  /-- HI (R26). -/
  hi : Word
  /-- LO (R26). -/
  lo : Word
  /-- The LL bit (R25). -/
  llBit : Bool
  /-- The Status register; bit 28 is RE (R21). -/
  sr : Word
  /-- The mode (R28). -/
  mode : Mode
  /-- EPC (R22). -/
  epc : Word
  /-- The four coprocessor units (R24). -/
  cop : Vector Coprocessor 4
  /-- The exception that ended the run, if one has (60_exceptions.md R220). -/
  raised : Option ExceptionInfo
  /-- The model's own counter for free values (log 19). -/
  freeCount : Nat
  /-- The arguments of the model, constant for a run (00_scope.md R4 to R6). -/
  cfg : Config
  deriving DecidableEq, Repr

/-- A coprocessor unit at reset: the spec gives it no value. DESIGN CHOICE (log 18). -/
def Coprocessor.reset : Coprocessor :=
  { general := Vector.replicate 32 launchWord
    control := Vector.replicate 32 launchWord
    condition := false }

/-- The machine right after reset (10_state.md R29, 70_reset_and_hazards.md R251). `npc`, `inDelay` and `pending` are
the spec's; memory lists nothing; the rest is named in the log (1, 4, 5, 17, 18, 19). -/
def State.reset : State :=
  { regs := Vector.replicate 32 launchWord
    pc := launchPc
    npc := launchPc + 4#32
    inDelay := false
    pending := none
    mem := []
    written := []
    hi := launchWord
    lo := launchWord
    llBit := false
    sr := launchWord
    mode := .kernel
    epc := launchWord
    cop := Vector.replicate 4 Coprocessor.reset
    raised := none
    freeCount := 0
    cfg := launchConfig }

end Sys2Proof.Machine
end

