-- ==== Sys2Proof/Machine/Memory.lean ====
section
/-! DEFINITION. Physical memory as a list of cells in one canonical form (20_memory.md R31): addresses strictly rising.
A byte of an address that is not listed has no value of its own; it reads as the free value `Config.launchByte`, fixed
for the run (92_eei_decisions.md D8, log 6). -/

namespace Sys2Proof.Machine

/-- The byte listed at an address. -/
def Memory.lookup (m : Memory) (a : Nat) : Option Byte :=
  match m with
  | [] => none
  | (k, b) :: rest => if a = k then some b else if a < k then none else Memory.lookup rest a

/-- What the byte at an address reads as: the last value given to it, or its unknown launch value (20_memory.md R45,
R47). -/
def Memory.read (m : Memory) (a : Nat) : Byte :=
  match m.lookup a with
  | some b => b
  | none => Config.launchByte a

/-- `mem[a] <- b`; no other byte changes. -/
def Memory.write (m : Memory) (a : Nat) (b : Byte) : Memory :=
  match m with
  | [] => [(a, b)]
  | (k, c) :: rest =>
    if a < k then (a, b) :: (k, c) :: rest
    else if a = k then (a, b) :: rest
    else (k, c) :: Memory.write rest a b

/-- Every address of the list is above the bound, and the addresses rise strictly. -/
def Memory.risesAbove (bound : Nat) (m : Memory) : Bool :=
  match m with
  | [] => true
  | (k, _) :: rest => decide (bound < k) && Memory.risesAbove k rest

/-- The canonical form. -/
def Memory.wf (m : Memory) : Bool :=
  match m with
  | [] => true
  | (k, _) :: rest => Memory.risesAbove k rest

/-- Adds an address to a strictly rising list of addresses. -/
def markAddress (l : List Nat) (a : Nat) : List Nat :=
  match l with
  | [] => [a]
  | k :: rest => if a < k then a :: k :: rest else if a = k then k :: rest else k :: markAddress rest a

/-- Takes an address out of a list of addresses. -/
def unmarkAddress (l : List Nat) (a : Nat) : List Nat :=
  match l with
  | [] => []
  | k :: rest => if a = k then unmarkAddress rest a else k :: unmarkAddress rest a

/-- Every address is above the bound and the list rises strictly. -/
def addressesRiseAbove (bound : Nat) (l : List Nat) : Bool :=
  match l with
  | [] => true
  | k :: rest => decide (bound < k) && addressesRiseAbove k rest

/-- The canonical form of a list of addresses. -/
def addressesWf (l : List Nat) : Bool :=
  match l with
  | [] => true
  | k :: rest => addressesRiseAbove k rest

end Sys2Proof.Machine
end

