-- ==== Sys2Proof/Machine/Operands.lean ====
section
/-! DEFINITION. How an instruction's fields become operands (30_encoding.md R63), shift amounts (41_computational.md
R150), and the addresses formed from them (40_load_store.md R100, 42_jump_branch.md R172, R176). -/

namespace Sys2Proof.Machine

/-- `sext_32(imm)`: ADDI, ADDIU, SLTI, SLTIU and every load and store offset (30_encoding.md R63). -/
def signExtended (imm : BitVec 16) : Word := imm.signExtend 32

/-- `zext_32(imm)`: ANDI, ORI, XORI (30_encoding.md R63). -/
def zeroExtended (imm : BitVec 16) : Word := imm.zeroExtend 32

/-- `imm ++ rep(0,16)`: LUI (30_encoding.md R63). -/
def upperHalf (imm : BitVec 16) : Word := imm ++ 0#16

/-- `sext_32(offset ++ 00)`: the byte offset of BEQ, BNE (30_encoding.md R63). -/
def branchOffset (offset : BitVec 16) : Word := (offset ++ 0#2).signExtend 32

/-- The target of a conditional branch at `pc`, from the address of the delay slot (42_jump_branch.md R172). -/
def branchTarget (pc : Word) (offset : BitVec 16) : Word := pc + 4#32 + branchOffset offset

/-- The target of J, JAL at `pc`: the high four bits of the delay slot's address, the field, two zeros
(42_jump_branch.md R176). -/
def jumpTarget (pc : Word) (target : BitVec 26) : Word := (pc + 4#32).extractLsb' 28 4 ++ target ++ 0#2

/-- "the address of the instruction after the delay slot" (42_jump_branch.md R173). -/
def linkAddress (pc : Word) : Word := pc + 8#32

/-- The virtual address of a load or store (40_load_store.md R100). -/
def effectiveAddress (base : Word) (offset : BitVec 16) : Word := base + signExtended offset

/-- `v[1:0]` of an address. -/
def lowBits (a : Word) : BitVec 2 := a.extractLsb' 0 2

/-- The amount of a constant shift, 0 to 31 (41_computational.md R150). -/
def constantShift (sa : BitVec 5) : Nat := sa.toNat

/-- The amount of a variable shift: bits 4..0 of the register (41_computational.md R150). -/
def variableShift (count : Word) : Nat := (count.extractLsb' 0 5).toNat

/-- `v[31-s : 0] ++ rep(0, s)` (41_computational.md R151). -/
def shiftLeft (v : Word) (s : Nat) : Word := v <<< s

/-- `rep(0, s) ++ v[31 : s]` (41_computational.md R153). -/
def shiftRightLogical (v : Word) (s : Nat) : Word := v >>> s

/-- `rep(v[31], s) ++ v[31 : s]` (41_computational.md R155). -/
def shiftRightArithmetic (v : Word) (s : Nat) : Word := v.sshiftRight s

/-- One or zero, the result of a comparison (41_computational.md R146 to R149). -/
def truthValue (b : Bool) : Word := if b then 1#32 else 0#32

end Sys2Proof.Machine
end

