-- ==== Sys2Proof/Machine/Ops.lean ====
section
/-! DEFINITION. The named operations over the state: general registers and the delayed write of a load (10_state.md R11,
R13, R16, R18), the program counter pair (R16 lines 9 and 10), taking an exception (60_exceptions.md R217 to R220) and
resuming after one (R218). -/

namespace Sys2Proof.Machine

/-- The type of a step's outcome. -/
abbrev Outcome := Host.Outcome State Fault Refusal

/-! ## General registers -/

/-- `x[r]`: register 0 reads zero (10_state.md R11). -/
def State.readGpr (s : State) (r : Reg) : Word :=
  if r = 0#5 then 0#32 else s.regs[r.toNat]'r.isLt

/-- `x[r] <- v`: a write to register 0 has no effect (10_state.md R11). -/
def State.setReg (s : State) (r : Reg) (v : Word) : State :=
  { s with regs := if r = 0#5 then s.regs else s.regs.set r.toNat v r.isLt }

/-- `S.pending = (r, v)` for some `v`: this step is the one in which the contents of `r` are undefined
(70_reset_and_hazards.md R255). -/
def State.inLoadDelay (s : State) (r : Reg) : Bool :=
  match s.pending with
  | some (p, _) => p == r
  | none => false

/-- The places of one instruction at which an undefined register's value is drawn; each draw is independent. -/
inductive Place where
  /-- The first source operand (`rs` or `base`). -/
  | first
  /-- The second source operand (`rt`). -/
  | second
  /-- The register left by two writes at one time step (70_reset_and_hazards.md R260). -/
  | result
  deriving DecidableEq, Repr

/-- The place as the argument of the free value. -/
def Place.index (p : Place) : Nat :=
  match p with
  | .first => 0
  | .second => 1
  | .result => 2

/-- The free value of this step at a place (log 7, 8, 19). -/
def State.undefinedWord (s : State) (p : Place) : Word := Config.freeWord s.freeCount p.index

/-- A read of a source register (10_state.md R16 line 6). In its load delay a register's contents are undefined
(70_reset_and_hazards.md R255): the read yields a free value, neither the old nor the new content (log 7). -/
def State.readOperand (s : State) (p : Place) (r : Reg) : Word :=
  if r = 0#5 then 0#32 else if s.inLoadDelay r then s.undefinedWord p else s.readGpr r

/-- The merge operand `rt` of LWL and LWR, with the bypass: the value the preceding load delivers (40_load_store.md
R112, 70_reset_and_hazards.md R256). -/
def State.readMerge (s : State) (r : Reg) : Word :=
  if r = 0#5 then 0#32
  else match s.pending with
    | some (p, v) => if p = r then v else s.readGpr r
    | none => s.readGpr r

/-- `pending <- none`. Advances the counter of free values when a load was pending, so that no value is drawn twice. -/
def State.clearPending (s : State) : State :=
  { s with pending := none, freeCount := if s.pending.isSome then s.freeCount + 1 else s.freeCount }

/-- `if S.pending = (r, v) then x[r] <- v ; pending <- none` (10_state.md R16 line 8a, R18). -/
def State.commitPending (s : State) : State :=
  match s.pending with
  | some (r, v) => (s.setReg r v).clearPending
  | none => s

/-- The register write of an instruction that is not a load (10_state.md R16 line 8b): if it targets the register just
committed in line 8a the order of the two writes "is not defined" and the register is left undefined
(70_reset_and_hazards.md R260): a free value (log 8). -/
def State.writeResult (s : State) (r : Reg) (v : Word) : State :=
  s.commitPending.setReg r (if s.inLoadDelay r then s.undefinedWord .result else v)

/-- `pending <- (rt, v) if rt != 0` (10_state.md R16 line 8b). -/
def State.delayWrite (s : State) (rt : Reg) (v : Word) : State :=
  { s with pending := if rt = 0#5 then s.pending else some (rt, v) }

/-- The register write of a load: delayed by one instruction on the R2000/R3000, at once on the R4000/R6000
(40_load_store.md R103, 70_reset_and_hazards.md R257). -/
def State.writeLoaded (s : State) (rt : Reg) (v : Word) : State :=
  match s.cfg.impl with
  | .r2000R3000 => s.commitPending.delayWrite rt v
  | .r4000R6000 => s.commitPending.setReg rt v

/-! ## The program counter pair -/

/-- After an instruction that is no jump or branch (10_state.md R16 lines 9 and 10, R19). -/
def State.advance (s : State) : State :=
  { s with pc := s.npc, npc := s.npc + 4#32, inDelay := false }

/-- After a jump or branch: the delay slot is next, `next` follows it (10_state.md R16 lines 9 and 10,
42_jump_branch.md R170). -/
def State.transfer (s : State) (next : Word) : State :=
  { s with pc := s.npc, npc := next, inDelay := true }

/-! ## Whole steps -/

/-- An instruction whose one effect is to write a register. -/
def State.finish (s : State) (r : Reg) (v : Word) : Outcome :=
  .next (s.writeResult r v).advance

/-- A load whose value has arrived. -/
def State.finishLoad (s : State) (rt : Reg) (v : Word) : Outcome :=
  .next (s.writeLoaded rt v).advance

/-- A jump or branch: "It is not valid for a delay slot to be occupied itself by a jump or branch instruction"
(70_reset_and_hazards.md R254, 10_state.md R16 line 5); otherwise the outcome given. -/
def State.jumpStep (s : State) (o : Outcome) : Outcome :=
  if s.inDelay then .fault .jumpInDelaySlot else o

/-! ## Exceptions -/

/-- The address EPC receives: the preceding jump or branch in a delay slot, the instruction itself elsewhere
(60_exceptions.md R217). -/
def State.restartAddress (s : State) : Word := if s.inDelay then s.pc - 4#32 else s.pc

/-- The state an exception leaves (60_exceptions.md R217, R219, R220; 10_state.md R16 line 7): a pending load commits,
EPC is written, the outcome is recorded; no register, memory, pc or npc write of the instruction happens. -/
def State.withException (s : State) (r : Raise) : State :=
  { s.commitPending with
    epc := s.restartAddress
    raised := some { kind := r.kind, bd := s.inDelay, badVAddr := r.badVAddr, access := r.access } }

/-- Taking an exception: the one operation every instruction that raises uses. The run ends in this state: fetching from
it answers `Fault.exceptionOutcome` (60_exceptions.md R220, log 9). -/
def State.takeException (s : State) (r : Raise) : Outcome := .next (s.withException r)

/-- Overflow, Breakpoint and Reserved Instruction: no address and no access (60_exceptions.md R220). -/
def Raise.plain (kind : ExceptionKind) : Raise := { kind := kind, badVAddr := none, access := none }

/-- "Restarting means resuming execution at EPC with `in_delay` false" (60_exceptions.md R218). The instructions that
perform the return, RFE and ERET, are named only (R224), so no instruction of this model calls it (log 28). -/
def State.restart (s : State) : State :=
  { s with pc := s.epc, npc := s.epc + 4#32, inDelay := false, raised := none }

/-! ## The processor revision register, CP0 general register 15 (10_state.md R23) -/

/-- `CPR[0,15]`. -/
def State.revision (s : State) : Word := s.cop[0].general[15]

/-- Bits 15..8, the implementation descriptor. -/
def State.revisionImplementation (s : State) : Byte := s.revision.extractLsb' 8 8

/-- Bits 7..4, the major revision. -/
def State.revisionMajor (s : State) : BitVec 4 := s.revision.extractLsb' 4 4

/-- Bits 3..0, the minor revision. -/
def State.revisionMinor (s : State) : BitVec 4 := s.revision.extractLsb' 0 4

end Sys2Proof.Machine
end

