-- ==== Sys2Proof/Machine/Arith.lean ====
section
/-! DEFINITION. Add and subtract (41_computational.md R130 to R137). -/

namespace Sys2Proof.Machine

/-- ADD (R132): Overflow raises before the write, whatever `rd` is (R131). -/
def execAdd (rd rs rt : Reg) (s : State) : Outcome :=
  let a := s.readOperand .first rs
  let b := s.readOperand .second rt
  if addOverflows a b then s.takeException (.plain .overflow) else s.finish rd (a + b)

/-- ADDI (R133). -/
def execAddi (rt rs : Reg) (imm : BitVec 16) (s : State) : Outcome :=
  let a := s.readOperand .first rs
  let b := signExtended imm
  if addOverflows a b then s.takeException (.plain .overflow) else s.finish rt (a + b)

/-- ADDIU (R134): the immediate is sign-extended; no overflow. -/
def execAddiu (rt rs : Reg) (imm : BitVec 16) (s : State) : Outcome :=
  s.finish rt (s.readOperand .first rs + signExtended imm)

/-- ADDU (R135): no overflow. -/
def execAddu (rd rs rt : Reg) (s : State) : Outcome :=
  s.finish rd (s.readOperand .first rs + s.readOperand .second rt)

/-- SUB (R136). -/
def execSub (rd rs rt : Reg) (s : State) : Outcome :=
  let a := s.readOperand .first rs
  let b := s.readOperand .second rt
  if subOverflows a b then s.takeException (.plain .overflow) else s.finish rd (a - b)

/-- SUBU (R137): no overflow. -/
def execSubu (rd rs rt : Reg) (s : State) : Outcome :=
  s.finish rd (s.readOperand .first rs - s.readOperand .second rt)

end Sys2Proof.Machine
end

