-- ==== Sys2Proof/Machine/Branch.lean ====
section
/-! DEFINITION. Jumps and branches (42_jump_branch.md R170 to R182). Each writes the address of the instruction after
its delay slot; a jump or branch in a delay slot is undefined (R178). -/

namespace Sys2Proof.Machine

/-- The address after the delay slot of a conditional branch: its target if taken, else `npc + 4` (R170, R174). -/
def State.branchNext (s : State) (taken : Bool) (offset : BitVec 16) : Word :=
  if taken then branchTarget s.pc offset else s.npc + 4#32

/-- BEQ (R174). -/
def execBeq (rs rt : Reg) (offset : BitVec 16) (s : State) : Outcome :=
  let taken := s.readOperand .first rs == s.readOperand .second rt
  s.jumpStep (.next (s.commitPending.transfer (s.branchNext taken offset)))

/-- BNE (R175). -/
def execBne (rs rt : Reg) (offset : BitVec 16) (s : State) : Outcome :=
  let taken := s.readOperand .first rs != s.readOperand .second rt
  s.jumpStep (.next (s.commitPending.transfer (s.branchNext taken offset)))

/-- J (R176). -/
def execJ (target : BitVec 26) (s : State) : Outcome :=
  s.jumpStep (.next (s.commitPending.transfer (jumpTarget s.pc target)))

/-- JAL (R177): links in register 31. -/
def execJal (target : BitVec 26) (s : State) : Outcome :=
  s.jumpStep (.next ((s.writeResult 31#5 (linkAddress s.pc)).transfer (jumpTarget s.pc target)))

/-- JALR (R179): undefined with rs = rd (R181, log 12); the target is the whole register, checked only when it is
fetched (R180). -/
def execJalr (rd rs : Reg) (s : State) : Outcome :=
  s.jumpStep (if rs = rd then .fault .jalrSameRegister
    else .next ((s.writeResult rd (linkAddress s.pc)).transfer (s.readOperand .first rs)))

/-- JR (R182). -/
def execJr (rs : Reg) (s : State) : Outcome :=
  s.jumpStep (.next (s.commitPending.transfer (s.readOperand .first rs)))

end Sys2Proof.Machine
end

