-- ==== Sys2Proof/Machine/Compare.lean ====
section
/-! DEFINITION. Set on less than (41_computational.md R146 to R149). -/

namespace Sys2Proof.Machine

/-- SLT (R146): signed. -/
def execSlt (rd rs rt : Reg) (s : State) : Outcome :=
  s.finish rd (truthValue ((s.readOperand .first rs).slt (s.readOperand .second rt)))

/-- SLTI (R147): signed, the immediate sign-extended. -/
def execSlti (rt rs : Reg) (imm : BitVec 16) (s : State) : Outcome :=
  s.finish rt (truthValue ((s.readOperand .first rs).slt (signExtended imm)))

/-- SLTIU (R148): unsigned, the immediate sign-extended first. -/
def execSltiu (rt rs : Reg) (imm : BitVec 16) (s : State) : Outcome :=
  s.finish rt (truthValue ((s.readOperand .first rs).ult (signExtended imm)))

/-- SLTU (R149): unsigned. -/
def execSltu (rd rs rt : Reg) (s : State) : Outcome :=
  s.finish rd (truthValue ((s.readOperand .first rs).ult (s.readOperand .second rt)))

end Sys2Proof.Machine
end

