-- ==== Sys2Proof/Machine/Access.lean ====
section
/-! DEFINITION. AddressTranslation, byte order, LoadMemory and StoreMemory (20_memory.md R32 to R41, R53), and the common
sequences of loads and stores (40_load_store.md R101, R102). -/

namespace Sys2Proof.Machine

/-! ## Physical addresses and translation -/

/-- A physical byte address: the word it lies in, `pAddr[PSIZE-1:2]`, and `pAddr[1:0]`. -/
structure PAddr where
  frame : Nat
  low : BitVec 2
  deriving DecidableEq, Repr

/-- The physical byte address as a number. -/
def PAddr.toNat (p : PAddr) : Nat := 4 * p.frame + p.low.toNat

/-- `pAddr[PSIZE-1:2] ++ (pAddr[1:0] xor m)`. -/
def PAddr.swap (p : PAddr) (m : BitVec 2) : PAddr := { p with low := p.low ^^^ m }

/-- `pAddr[PSIZE-1:2] ++ 00`. -/
def PAddr.aligned (p : PAddr) : PAddr := { p with low := 0#2 }

/-- `PSIZE`: 32 on the R2000/R3000, at least 32 on the R4000/R6000 (00_scope.md R6, 92_eei_decisions.md D2). -/
def physicalBits (c : Config) : Nat :=
  match c.impl with
  | .r2000R3000 => 32
  | .r4000R6000 => max 32 c.psize

/-- The exception as the spec's list of all exceptions names it (60_exceptions.md R210). -/
def translationKind (f : TranslationFault) : ExceptionKind :=
  match f with
  | .tlbRefill => .tlbRefill
  | .tlbInvalid => .tlbInvalid
  | .tlbModification => .tlbModification
  | .addressError => .addressError

/-- The mapping answers for this reference. A TLB modification answers for stores only (20_memory.md R32). -/
def mappingCovers (m : Mapping) (vAddr : Word) (access : Access) : Bool :=
  decide (m.first.toNat ≤ vAddr.toNat) && decide (vAddr.toNat ≤ m.last.toNat) && m.refs.contains access
    && (m.result != .raises .tlbModification || access == .store)

/-- The answer of the first mapping that covers the reference. -/
def findMapping (ms : List Mapping) (vAddr : Word) (access : Access) : Option Mapping :=
  match ms with
  | [] => none
  | m :: rest => if mappingCovers m vAddr access then some m else findMapping rest vAddr access

/-- `AddressTranslation(vAddr, IorD, LorS)`: a physical address with `pAddr[1:0] = vAddr[1:0]` and the `uncached` bit,
or an exception (20_memory.md R32). An address of no mapping translates to itself, cached (log 2). -/
def addressTranslation (c : Config) (vAddr : Word) (access : Access) : Except Raise (PAddr × Bool) :=
  match findMapping c.mappings vAddr access with
  | none => .ok ({ frame := vAddr.toNat / 4, low := lowBits vAddr }, false)
  | some m =>
    match m.result with
    | .mapped frame uncached =>
      .ok ({ frame := (frame + (vAddr.toNat / 4 - m.first.toNat / 4)) % 2 ^ (physicalBits c - 2),
             low := lowBits vAddr }, uncached)
    | .raises f =>
      .error { kind := translationKind f, badVAddr := some vAddr, access := some access }

/-- `BusError(pAddr)` (20_memory.md R53). -/
def busErrorAt (c : Config) (a : Nat) : Bool :=
  c.busErrors.any fun range => decide (range.1 ≤ a) && decide (a ≤ range.2)

/-! ## Byte order -/

/-- `ReverseEndian = SR_28 and User mode` on the R4000/R6000, 0 on the R2000/R3000 (20_memory.md R39). -/
def State.reverseEndian (s : State) : Bool :=
  match s.cfg.impl with
  | .r2000R3000 => false
  | .r4000R6000 => s.sr.getLsbD 28 && s.mode == .user

/-- `BigEndianCPU = BigEndianMem XOR ReverseEndian` (20_memory.md R40). -/
def State.bigEndianCPU (s : State) : Bool := s.cfg.bigEndianMem != s.reverseEndian

/-- `lane(k)`: the byte lane in which the byte at offset `k` of a memory word sits, and the offset at which lane `k` is
stored (20_memory.md R37). -/
def laneOf (bigEndian : Bool) (k : BitVec 2) : BitVec 2 := if bigEndian then 3#2 - k else k

/-- `rep(b, 2)`. -/
def both (b : Bool) : BitVec 2 := if b then 3#2 else 0#2

/-- `b ++ 0`. -/
def upper (b : Bool) : BitVec 2 := if b then 2#2 else 0#2

/-! ## LoadMemory and StoreMemory -/

/-- The access types of Table A-3 (20_memory.md R35). -/
inductive AccessType where
  | byte
  | halfword
  | tripleByte
  | word
  | quintiByte
  | sextiByte
  | septiByte
  | doubleword
  deriving DecidableEq, Repr

/-- The value of an access type: the number of bytes less one (20_memory.md R35). -/
def AccessType.value (t : AccessType) : Nat :=
  match t with
  | .byte => 0
  | .halfword => 1
  | .tripleByte => 2
  | .word => 3
  | .quintiByte => 4
  | .sextiByte => 5
  | .septiByte => 6
  | .doubleword => 7

/-- The access type LWL, LWR, SWL and SWR compute as a number (20_memory.md R35). -/
def AccessType.ofNumber (n : BitVec 2) : AccessType :=
  match n with
  | 0#2 => .byte
  | 1#2 => .halfword
  | 2#2 => .tripleByte
  | _ => .word

/-- What LoadMemory returns: the four byte lanes of a 32-bit value, lane 0 the least significant (20_memory.md R37). -/
structure Lanes where
  lane0 : Byte
  lane1 : Byte
  lane2 : Byte
  lane3 : Byte
  deriving DecidableEq, Repr

/-- `m[8*j+7 : 8*j]`. -/
def Lanes.lane (m : Lanes) (j : BitVec 2) : Byte :=
  match j with
  | 0#2 => m.lane0
  | 1#2 => m.lane1
  | 2#2 => m.lane2
  | _ => m.lane3

/-- `m[15+8*j : 8*j]`, `j` even. -/
def Lanes.half (m : Lanes) (j : BitVec 2) : BitVec 16 := m.lane (j + 1#2) ++ m.lane j

/-- `m` as a 32-bit value. -/
def Lanes.word (m : Lanes) : Word := m.lane3 ++ m.lane2 ++ m.lane1 ++ m.lane0

/-- The memory word whose first byte is at `4 * frame`, by lanes (20_memory.md R33, R37). -/
def memoryLanes (bigEndian : Bool) (m : Memory) (frame : Nat) : Lanes :=
  let at_ (j : BitVec 2) : Byte := m.read (4 * frame + (laneOf bigEndian j).toNat)
  { lane0 := at_ 0#2, lane1 := at_ 1#2, lane2 := at_ 2#2, lane3 := at_ 3#2 }

/-- The exception of a physical address that answers with a bus error: no virtual address (60_exceptions.md R215,
R220). -/
def Raise.bus (access : Access) : Raise := { kind := .busError, badVAddr := none, access := some access }

/-- `LoadMemory` (20_memory.md R33). The whole word is returned: R33 allows it, and no instruction reads a lane its
access type does not cover (log 29). `uncached` does not affect the result (R46). -/
def State.loadMemory (s : State) (_uncached : Bool) (_type : AccessType) (p : PAddr) (access : Access) :
    Except Raise Lanes :=
  if busErrorAt s.cfg p.toNat then .error (.bus access)
  else .ok (memoryLanes s.cfg.bigEndianMem s.mem p.frame)

/-- One byte stored: memory, and the record of 20_memory.md R50. -/
def State.putByte (s : State) (a : Nat) (b : Byte) : State :=
  { s with mem := s.mem.write a b, written := markAddress s.written a }

/-- Byte lane `j` of a 32-bit value (20_memory.md R37). -/
def dataLane (data : Word) (j : BitVec 2) : Byte := data.extractLsb' (8 * j.toNat) 8

/-- The offset `k` of a word is one of `lo .. lo + n` (20_memory.md R33). -/
def coversOffset (p : PAddr) (type : AccessType) (k : BitVec 2) : Bool :=
  decide (p.low.toNat ≤ k.toNat) && decide (k.toNat ≤ p.low.toNat + type.value)

/-- `mem[A + k] <- data lane`, if the access covers offset `k` (20_memory.md R34). -/
def State.putLane (s : State) (type : AccessType) (data : Word) (p : PAddr) (k : BitVec 2) : State :=
  if coversOffset p type k then
    s.putByte (4 * p.frame + k.toNat) (dataLane data (laneOf s.cfg.bigEndianMem k))
  else s

/-- The bytes `StoreMemory` changes (20_memory.md R34). -/
def State.putLanes (s : State) (type : AccessType) (data : Word) (p : PAddr) : State :=
  (((s.putLane type data p 0#2).putLane type data p 1#2).putLane type data p 2#2).putLane type data p 3#2

/-- `StoreMemory` (20_memory.md R34); with a bus error it stores nothing (R53). -/
def State.storeMemory (s : State) (_uncached : Bool) (type : AccessType) (data : Word) (p : PAddr)
    (access : Access) : Except Raise State :=
  if busErrorAt s.cfg p.toNat then .error (.bus access) else .ok (s.putLanes type data p)

/-! ## The common sequences of loads and stores -/

/-- The alignment check on the virtual address, made before translation (20_memory.md R43): the bits of `mask` are
zero. -/
def alignedTo (mask : BitVec 2) (vAddr : Word) : Bool := lowBits vAddr &&& mask == 0#2

/-- An address error with its address (60_exceptions.md R213). -/
def Raise.misaligned (vAddr : Word) (access : Access) : Raise :=
  { kind := .addressError, badVAddr := some vAddr, access := some access }

/-- Steps 3 to 6 of a load (40_load_store.md R101): alignment, translation, the adjustment `place` of the two low bits
of `pAddr`, LoadMemory. -/
def State.loadLanes (s : State) (mask : BitVec 2) (type : AccessType) (place : PAddr → PAddr) (vAddr : Word) :
    Except Raise Lanes :=
  if alignedTo mask vAddr then
    match addressTranslation s.cfg vAddr .load with
    | .error r => .error r
    | .ok (p, uncached) => s.loadMemory uncached type (place p) .load
  else .error (.misaligned vAddr .load)

/-- Steps 3 to 5 of a store (40_load_store.md R102): the physical address stored to, with its `uncached` bit. -/
def State.storeAddress (s : State) (mask : BitVec 2) (place : PAddr → PAddr) (vAddr : Word) :
    Except Raise (PAddr × Bool) :=
  if alignedTo mask vAddr then
    match addressTranslation s.cfg vAddr .store with
    | .error r => .error r
    | .ok (p, uncached) => .ok (place p, uncached)
  else .error (.misaligned vAddr .store)

/-- Steps 3 to 7 of a store (40_load_store.md R102). -/
def State.storeLanes (s : State) (mask : BitVec 2) (type : AccessType) (place : PAddr → PAddr) (vAddr : Word)
    (data : Word) : Except Raise State :=
  match s.storeAddress mask place vAddr with
  | .error r => .error r
  | .ok (p, uncached) => s.storeMemory uncached type data p .store

/-- A store that has been made, or its exception. A pending load commits and the program counter advances (10_state.md
R16 lines 8a to 10). -/
def State.finishStore (s : State) (r : Except Raise State) : Outcome :=
  match r with
  | .error e => s.takeException e
  | .ok t => .next t.commitPending.advance

/-- A load whose lanes have arrived, or its exception (40_load_store.md R101 steps 7 and 8). -/
def State.finishLanes (s : State) (rt : Reg) (r : Except Raise Lanes) (value : Lanes → Word) : Outcome :=
  match r with
  | .error e => s.takeException e
  | .ok m => s.finishLoad rt (value m)

/-! ## The places and selections of the loads and stores -/

/-- The adjustment of `pAddr` for a byte access (40_load_store.md R105). -/
def State.bytePlace (s : State) (p : PAddr) : PAddr := p.swap (both s.reverseEndian)

/-- The adjustment of `pAddr` for a halfword access (40_load_store.md R107). -/
def State.halfPlace (s : State) (p : PAddr) : PAddr := p.swap (upper s.reverseEndian)

/-- The adjustment of `pAddr` for LWL and SWL (40_load_store.md R110, R116). -/
def State.leftPlace (s : State) (p : PAddr) : PAddr :=
  if s.cfg.bigEndianMem then s.bytePlace p else (s.bytePlace p).aligned

/-- The adjustment of `pAddr` for LWR and SWR (40_load_store.md R111, R122). -/
def State.rightPlace (s : State) (p : PAddr) : PAddr :=
  if s.cfg.bigEndianMem then (s.bytePlace p).aligned else s.bytePlace p

/-- `byte`, the lane a byte access uses (40_load_store.md R105). -/
def State.byteSelect (s : State) (vAddr : Word) : BitVec 2 := lowBits vAddr ^^^ both s.bigEndianCPU

/-- `byte`, the lower lane a halfword access uses (40_load_store.md R107). -/
def State.halfSelect (s : State) (vAddr : Word) : BitVec 2 := lowBits vAddr ^^^ upper s.bigEndianCPU

/-- `mem[7+8*byte : 0] ++ old[23-8*byte : 0]` (40_load_store.md R110). -/
def mergeLeft (byte : BitVec 2) (m : Lanes) (old : Word) : Word :=
  match byte with
  | 0#2 => m.lane0 ++ old.extractLsb' 0 24
  | 1#2 => m.lane1 ++ m.lane0 ++ old.extractLsb' 0 16
  | 2#2 => m.lane2 ++ m.lane1 ++ m.lane0 ++ old.extractLsb' 0 8
  | _ => m.word

/-- `old[31 : 32-8*byte] ++ mem[31 : 8*byte]` (40_load_store.md R111). -/
def mergeRight (byte : BitVec 2) (m : Lanes) (old : Word) : Word :=
  match byte with
  | 0#2 => m.word
  | 1#2 => old.extractLsb' 24 8 ++ m.lane3 ++ m.lane2 ++ m.lane1
  | 2#2 => old.extractLsb' 16 16 ++ m.lane3 ++ m.lane2
  | _ => old.extractLsb' 8 24 ++ m.lane3

/-- `v[31-8*byte : 0] ++ rep(0, 8*byte)` (40_load_store.md R113). -/
def shiftIntoLane (v : Word) (byte : BitVec 2) : Word := v <<< (8 * byte.toNat)

/-- `rep(0, 24-8*byte) ++ v[31 : 24-8*byte]` (40_load_store.md R116). -/
def shiftFromLeft (v : Word) (byte : BitVec 2) : Word := v >>> (24 - 8 * byte.toNat)

end Sys2Proof.Machine
end

