-- ==== Sys2Proof/Machine/Load.lean ====
section
/-! DEFINITION. Loads (40_load_store.md R100, R101, R103, R105 to R112). -/

namespace Sys2Proof.Machine

/-- The virtual address of a load or store (40_load_store.md R100), its base read as the first operand. -/
def State.dataAddress (s : State) (offset : BitVec 16) (base : Reg) : Word :=
  effectiveAddress (s.readOperand .first base) offset

/-- LB (R105). -/
def execLb (rt : Reg) (offset : BitVec 16) (base : Reg) (s : State) : Outcome :=
  let vAddr := s.dataAddress offset base
  s.finishLanes rt (s.loadLanes 0#2 .byte s.bytePlace vAddr) fun m =>
    (m.lane (s.byteSelect vAddr)).signExtend 32

/-- LBU (R106). -/
def execLbu (rt : Reg) (offset : BitVec 16) (base : Reg) (s : State) : Outcome :=
  let vAddr := s.dataAddress offset base
  s.finishLanes rt (s.loadLanes 0#2 .byte s.bytePlace vAddr) fun m =>
    (m.lane (s.byteSelect vAddr)).zeroExtend 32

/-- LH (R107). -/
def execLh (rt : Reg) (offset : BitVec 16) (base : Reg) (s : State) : Outcome :=
  let vAddr := s.dataAddress offset base
  s.finishLanes rt (s.loadLanes 1#2 .halfword s.halfPlace vAddr) fun m =>
    (m.half (s.halfSelect vAddr)).signExtend 32

/-- LHU (R108). -/
def execLhu (rt : Reg) (offset : BitVec 16) (base : Reg) (s : State) : Outcome :=
  let vAddr := s.dataAddress offset base
  s.finishLanes rt (s.loadLanes 1#2 .halfword s.halfPlace vAddr) fun m =>
    (m.half (s.halfSelect vAddr)).zeroExtend 32

/-- LW (R109): no ReverseEndian adjustment. -/
def execLw (rt : Reg) (offset : BitVec 16) (base : Reg) (s : State) : Outcome :=
  s.finishLanes rt (s.loadLanes 3#2 .word id (s.dataAddress offset base)) fun m => m.word

/-- LWL (R110): merges into `x[rt]`, with the bypass of R112. -/
def execLwl (rt : Reg) (offset : BitVec 16) (base : Reg) (s : State) : Outcome :=
  let vAddr := s.dataAddress offset base
  s.finishLanes rt (s.loadLanes 0#2 (.ofNumber (s.byteSelect vAddr)) s.leftPlace vAddr) fun m =>
    mergeLeft (s.byteSelect vAddr) m (s.readMerge rt)

/-- LWR (R111): merges into `x[rt]`, with the bypass of R112; the access type is `3 - byte`. -/
def execLwr (rt : Reg) (offset : BitVec 16) (base : Reg) (s : State) : Outcome :=
  let vAddr := s.dataAddress offset base
  s.finishLanes rt (s.loadLanes 0#2 (.ofNumber (3#2 - s.byteSelect vAddr)) s.rightPlace vAddr) fun m =>
    mergeRight (s.byteSelect vAddr) m (s.readMerge rt)

end Sys2Proof.Machine
end

