-- ==== Sys2Proof/Machine/Logic.lean ====
section
/-! DEFINITION. Logical instructions and LUI (41_computational.md R138 to R145). -/

namespace Sys2Proof.Machine

/-- AND (R138). -/
def execAnd (rd rs rt : Reg) (s : State) : Outcome :=
  s.finish rd (s.readOperand .first rs &&& s.readOperand .second rt)

/-- ANDI (R139): the immediate is zero-extended. -/
def execAndi (rt rs : Reg) (imm : BitVec 16) (s : State) : Outcome :=
  s.finish rt (s.readOperand .first rs &&& zeroExtended imm)

/-- OR (R140). -/
def execOr (rd rs rt : Reg) (s : State) : Outcome :=
  s.finish rd (s.readOperand .first rs ||| s.readOperand .second rt)

/-- ORI (R141): the immediate is zero-extended. -/
def execOri (rt rs : Reg) (imm : BitVec 16) (s : State) : Outcome :=
  s.finish rt (s.readOperand .first rs ||| zeroExtended imm)

/-- XOR (R142). -/
def execXor (rd rs rt : Reg) (s : State) : Outcome :=
  s.finish rd (s.readOperand .first rs ^^^ s.readOperand .second rt)

/-- XORI (R143): the immediate is zero-extended. -/
def execXori (rt rs : Reg) (imm : BitVec 16) (s : State) : Outcome :=
  s.finish rt (s.readOperand .first rs ^^^ zeroExtended imm)

/-- NOR (R144). -/
def execNor (rd rs rt : Reg) (s : State) : Outcome :=
  s.finish rd (~~~(s.readOperand .first rs ||| s.readOperand .second rt))

/-- LUI (R145): it reads no register. -/
def execLui (rt : Reg) (imm : BitVec 16) (s : State) : Outcome :=
  s.finish rt (upperHalf imm)

end Sys2Proof.Machine
end

