-- ==== Sys2Proof/Machine/CopForm.lean ====
section
/-! DEFINITION. The selection inside a COPz word by its `rs` and `rt` fields (43_coprocessor.md R191, 30_encoding.md R64,
R68, R70), read and written. -/

namespace Sys2Proof

/-- The COPz `rt` table, under BC (30_encoding.md R68, R70). -/
def copBranchForm (rt : Reg) (low : BitVec 16) : CopForm :=
  match rt with
  | 0b00000#5 => .bcf low
  | 0b00001#5 => .bct low
  | 0b00010#5 => .bcfl low
  | 0b00011#5 => .bctl low
  | 0b00111#5 => .lostRt rt low
  | 0b01111#5 => .lostRt rt low
  | 0b10111#5 => .lostRt rt low
  | 0b11111#5 => .lostRt rt low
  | _ => .gammaRt rt low

/-- The COPz `rs` table for the row labels 0 and 1, bit 25 clear (30_encoding.md R68, R70). -/
def copMoveForm (rs : Reg) (low : BitVec 21) : CopForm :=
  match rs with
  | 0b00000#5 => .mf low
  | 0b00010#5 => .cf low
  | 0b00100#5 => .mt low
  | 0b00110#5 => .ct low
  | 0b01000#5 => copBranchForm (low.extractLsb' 16 5) (low.extractLsb' 0 16)
  | 0b00111#5 => .lostRs rs low
  | 0b01111#5 => .lostRs rs low
  | _ => .gammaRs rs low

/-- What bits 25..0 of a COPz word select (43_coprocessor.md R191): CO if bit 25 is set, else by `rs` and `rt`. -/
def copForm (rest : BitVec 26) : CopForm :=
  if rest.getLsbD 25 then .co (rest.extractLsb' 0 25)
  else copMoveForm (rest.extractLsb' 21 5) (rest.extractLsb' 0 21)

/-- Bits 25..0 of the COPz word of a form (43_coprocessor.md R191, 30_encoding.md R68). -/
def copRest (f : CopForm) : BitVec 26 :=
  match f with
  | .mf low => 0b00000#5 ++ low
  | .cf low => 0b00010#5 ++ low
  | .mt low => 0b00100#5 ++ low
  | .ct low => 0b00110#5 ++ low
  | .bcf low => 0b01000#5 ++ 0b00000#5 ++ low
  | .bct low => 0b01000#5 ++ 0b00001#5 ++ low
  | .bcfl low => 0b01000#5 ++ 0b00010#5 ++ low
  | .bctl low => 0b01000#5 ++ 0b00011#5 ++ low
  | .co operation => 1#1 ++ operation
  | .gammaRs rs low => rs ++ low
  | .gammaRt rt low => 0b01000#5 ++ rt ++ low
  | .lostRs rs low => rs ++ low
  | .lostRt rt low => 0b01000#5 ++ rt ++ low

end Sys2Proof
end

