-- ==== Sys2Proof/Machine/NamedOnly.lean ====
section
/-! DEFINITION. The instructions the opcode map names and no page describes (44_special.md R202, 43_coprocessor.md
R194): refused by name, but for the alpha rows, which raise Reserved Instruction on the R2000/R3000 (30_encoding.md
R70). None is given a meaning from outside the spec (log 13, 14). -/

namespace Sys2Proof.Machine

/-- `REFUSE(<mnemonic> not described)` (44_special.md R202). -/
def refuseNamedOnly (mnemonic : String) : Outcome := .refused (.notDescribed mnemonic)

/-- `REFUSE(coprocessor instruction not described)` (43_coprocessor.md R194). -/
def refuseCoprocessor (mnemonic : String) : Outcome := .refused (.coprocessorNotDescribed mnemonic)

/-- The same for a COPz word, with the cell its `rs` and `rt` fields select (43_coprocessor.md R191, R194). Every cell is
refused on both implementations, the beta and gamma ones too (30_encoding.md R70, R71). -/
def refuseCopForm (mnemonic : String) (rest : BitVec 26) : Outcome :=
  .refused (.coprocessorFormNotDescribed mnemonic (copForm rest))

/-- An alpha row: "cause reserved instruction exceptions in R2000/R3000 implementations, and are valid for R4000
implementations", where it is not described (30_encoding.md R70, 60_exceptions.md R216). -/
def alphaRow (refused : Outcome) (s : State) : Outcome :=
  match s.cfg.impl with
  | .r2000R3000 => s.takeException (.plain .reservedInstruction)
  | .r4000R6000 => refused

/-- A beta row: not valid and not trapped on the R2000/R3000, valid and not described on the R4000/R6000
(30_encoding.md R70). -/
def betaRow (mnemonic : String) (s : State) : Outcome :=
  match s.cfg.impl with
  | .r2000R3000 => .refused (.notValidOnR2000 mnemonic)
  | .r4000R6000 => refuseNamedOnly mnemonic

/-- BLEZ, named only (44_special.md R202). -/
def execBlez (_rest : BitVec 26) (_s : State) : Outcome := refuseNamedOnly "BLEZ"

/-- COP0, named only (43_coprocessor.md R191, R194). -/
def execCop0 (rest : BitVec 26) (_s : State) : Outcome := refuseCopForm "COP0" rest

/-- COP1, named only (43_coprocessor.md R191, R194). -/
def execCop1 (rest : BitVec 26) (_s : State) : Outcome := refuseCopForm "COP1" rest

/-- COP2, named only (43_coprocessor.md R191, R194). -/
def execCop2 (rest : BitVec 26) (_s : State) : Outcome := refuseCopForm "COP2" rest

/-- COP3, named only (43_coprocessor.md R191, R194). -/
def execCop3 (rest : BitVec 26) (_s : State) : Outcome := refuseCopForm "COP3" rest

/-- BEQL, an alpha row (30_encoding.md R70). -/
def execBeql (_rest : BitVec 26) (s : State) : Outcome := alphaRow (refuseNamedOnly "BEQL") s

/-- BNEL, an alpha row (30_encoding.md R70). -/
def execBnel (_rest : BitVec 26) (s : State) : Outcome := alphaRow (refuseNamedOnly "BNEL") s

/-- BLEZL, an alpha row (30_encoding.md R70). -/
def execBlezl (_rest : BitVec 26) (s : State) : Outcome := alphaRow (refuseNamedOnly "BLEZL") s

/-- LL, named only (44_special.md R202). -/
def execLl (_rest : BitVec 26) (_s : State) : Outcome := refuseNamedOnly "LL"

/-- LWC1, named only (43_coprocessor.md R194). -/
def execLwc1 (_rest : BitVec 26) (_s : State) : Outcome := refuseCoprocessor "LWC1"

/-- LWC2, named only (43_coprocessor.md R194). -/
def execLwc2 (_rest : BitVec 26) (_s : State) : Outcome := refuseCoprocessor "LWC2"

/-- LWC3, named only (43_coprocessor.md R194). -/
def execLwc3 (_rest : BitVec 26) (_s : State) : Outcome := refuseCoprocessor "LWC3"

/-- LDC1, an alpha row (30_encoding.md R70). -/
def execLdc1 (_rest : BitVec 26) (s : State) : Outcome := alphaRow (refuseCoprocessor "LDC1") s

/-- LDC2, an alpha row (30_encoding.md R70). -/
def execLdc2 (_rest : BitVec 26) (s : State) : Outcome := alphaRow (refuseCoprocessor "LDC2") s

/-- SC, named only (44_special.md R202). -/
def execSc (_rest : BitVec 26) (_s : State) : Outcome := refuseNamedOnly "SC"

/-- SWC1, named only (43_coprocessor.md R194). -/
def execSwc1 (_rest : BitVec 26) (_s : State) : Outcome := refuseCoprocessor "SWC1"

/-- SWC2, named only (43_coprocessor.md R194). -/
def execSwc2 (_rest : BitVec 26) (_s : State) : Outcome := refuseCoprocessor "SWC2"

/-- SWC3, named only (43_coprocessor.md R194). -/
def execSwc3 (_rest : BitVec 26) (_s : State) : Outcome := refuseCoprocessor "SWC3"

/-- SDC1, an alpha row (30_encoding.md R70). -/
def execSdc1 (_rest : BitVec 26) (s : State) : Outcome := alphaRow (refuseCoprocessor "SDC1") s

/-- SDC2, an alpha row (30_encoding.md R70). -/
def execSdc2 (_rest : BitVec 26) (s : State) : Outcome := alphaRow (refuseCoprocessor "SDC2") s

/-- SYSCALL, named only (44_special.md R202). -/
def execSyscall (_rest : BitVec 20) (_s : State) : Outcome := refuseNamedOnly "SYSCALL"

/-- MFHI, named only (44_special.md R202). -/
def execMfhi (_rest : BitVec 20) (_s : State) : Outcome := refuseNamedOnly "MFHI"

/-- MTHI, named only (44_special.md R202). -/
def execMthi (_rest : BitVec 20) (_s : State) : Outcome := refuseNamedOnly "MTHI"

/-- MFLO, named only (44_special.md R202). -/
def execMflo (_rest : BitVec 20) (_s : State) : Outcome := refuseNamedOnly "MFLO"

/-- MTLO, named only (44_special.md R202). -/
def execMtlo (_rest : BitVec 20) (_s : State) : Outcome := refuseNamedOnly "MTLO"

/-- MULT, named only (44_special.md R202). -/
def execMult (_rest : BitVec 20) (_s : State) : Outcome := refuseNamedOnly "MULT"

/-- MULTU, named only (44_special.md R202). -/
def execMultu (_rest : BitVec 20) (_s : State) : Outcome := refuseNamedOnly "MULTU"

/-- DIV, named only (44_special.md R202). -/
def execDiv (_rest : BitVec 20) (_s : State) : Outcome := refuseNamedOnly "DIV"

/-- DIVU, named only (44_special.md R202). -/
def execDivu (_rest : BitVec 20) (_s : State) : Outcome := refuseNamedOnly "DIVU"

/-- TGE, an alpha row (30_encoding.md R70). -/
def execTge (_rest : BitVec 20) (s : State) : Outcome := alphaRow (refuseNamedOnly "TGE") s

/-- TGEU, an alpha row (30_encoding.md R70). -/
def execTgeu (_rest : BitVec 20) (s : State) : Outcome := alphaRow (refuseNamedOnly "TGEU") s

/-- TLT, an alpha row (30_encoding.md R70). -/
def execTlt (_rest : BitVec 20) (s : State) : Outcome := alphaRow (refuseNamedOnly "TLT") s

/-- TLTU, an alpha row (30_encoding.md R70). -/
def execTltu (_rest : BitVec 20) (s : State) : Outcome := alphaRow (refuseNamedOnly "TLTU") s

/-- TEQ, an alpha row (30_encoding.md R70). -/
def execTeq (_rest : BitVec 20) (s : State) : Outcome := alphaRow (refuseNamedOnly "TEQ") s

/-- TNE, an alpha row (30_encoding.md R70). -/
def execTne (_rest : BitVec 20) (s : State) : Outcome := alphaRow (refuseNamedOnly "TNE") s

/-- BLTZ, named only (44_special.md R202). -/
def execBltz (_high : BitVec 5) (_low : BitVec 16) (_s : State) : Outcome := refuseNamedOnly "BLTZ"

/-- BGEZ, named only (44_special.md R202). -/
def execBgez (_high : BitVec 5) (_low : BitVec 16) (_s : State) : Outcome := refuseNamedOnly "BGEZ"

/-- BLTZAL, named only (44_special.md R202). -/
def execBltzal (_high : BitVec 5) (_low : BitVec 16) (_s : State) : Outcome := refuseNamedOnly "BLTZAL"

/-- BGEZAL, named only (44_special.md R202). -/
def execBgezal (_high : BitVec 5) (_low : BitVec 16) (_s : State) : Outcome := refuseNamedOnly "BGEZAL"

/-- BLTZL, a beta row (30_encoding.md R70). -/
def execBltzl (_high : BitVec 5) (_low : BitVec 16) (s : State) : Outcome := betaRow "BLTZL" s

/-- BGEZL, a beta row (30_encoding.md R70). -/
def execBgezl (_high : BitVec 5) (_low : BitVec 16) (s : State) : Outcome := betaRow "BGEZL" s

/-- TGEI, a beta row (30_encoding.md R70). -/
def execTgei (_high : BitVec 5) (_low : BitVec 16) (s : State) : Outcome := betaRow "TGEI" s

/-- TEQI, a beta row (30_encoding.md R70). -/
def execTeqi (_high : BitVec 5) (_low : BitVec 16) (s : State) : Outcome := betaRow "TEQI" s

/-- TNEI, a beta row (30_encoding.md R70). -/
def execTnei (_high : BitVec 5) (_low : BitVec 16) (s : State) : Outcome := betaRow "TNEI" s

/-- BLTZALL, a beta row (30_encoding.md R70). -/
def execBltzall (_high : BitVec 5) (_low : BitVec 16) (s : State) : Outcome := betaRow "BLTZALL" s

/-- BGEZALL, a beta row (30_encoding.md R70). -/
def execBgezall (_high : BitVec 5) (_low : BitVec 16) (s : State) : Outcome := betaRow "BGEZALL" s

/-- TGEIU, a beta row (30_encoding.md R70). -/
def execTgeiu (_high : BitVec 5) (_low : BitVec 16) (s : State) : Outcome := betaRow "TGEIU" s

/-- TLTI, a beta row (30_encoding.md R70). -/
def execTlti (_high : BitVec 5) (_low : BitVec 16) (s : State) : Outcome := betaRow "TLTI" s

/-- TLTIU, a beta row (30_encoding.md R70). -/
def execTltiu (_high : BitVec 5) (_low : BitVec 16) (s : State) : Outcome := betaRow "TLTIU" s

end Sys2Proof.Machine
end

