-- ==== Sys2Proof/Machine/Shift.lean ====
section
/-! DEFINITION. Shifts (41_computational.md R150 to R156): the value shifted is always `x[rt]`. -/

namespace Sys2Proof.Machine

/-- SLL (R151). -/
def execSll (rd rt : Reg) (sa : BitVec 5) (s : State) : Outcome :=
  s.finish rd (shiftLeft (s.readOperand .second rt) (constantShift sa))

/-- SLLV (R152). -/
def execSllv (rd rt rs : Reg) (s : State) : Outcome :=
  s.finish rd (shiftLeft (s.readOperand .second rt) (variableShift (s.readOperand .first rs)))

/-- SRL (R153). -/
def execSrl (rd rt : Reg) (sa : BitVec 5) (s : State) : Outcome :=
  s.finish rd (shiftRightLogical (s.readOperand .second rt) (constantShift sa))

/-- SRLV (R154). -/
def execSrlv (rd rt rs : Reg) (s : State) : Outcome :=
  s.finish rd (shiftRightLogical (s.readOperand .second rt) (variableShift (s.readOperand .first rs)))

/-- SRA (R155). -/
def execSra (rd rt : Reg) (sa : BitVec 5) (s : State) : Outcome :=
  s.finish rd (shiftRightArithmetic (s.readOperand .second rt) (constantShift sa))

/-- SRAV (R156). -/
def execSrav (rd rt rs : Reg) (s : State) : Outcome :=
  s.finish rd (shiftRightArithmetic (s.readOperand .second rt) (variableShift (s.readOperand .first rs)))

end Sys2Proof.Machine
end

