-- ==== Sys2Proof/Machine/Special.lean ====
section
/-! DEFINITION. BREAK (44_special.md R200, R201). -/

namespace Sys2Proof.Machine

/-- BREAK (R200): always raises Breakpoint; the `code` field has no effect on the hardware. -/
def execBreak (_code : BitVec 20) (s : State) : Outcome := s.takeException (.plain .breakpoint)

end Sys2Proof.Machine
end

