-- ==== Sys2Proof/Machine/Store.lean ====
section
/-! DEFINITION. Stores (40_load_store.md R100, R102, R113 to R116, R122). -/

namespace Sys2Proof.Machine

/-- SB (R113). -/
def execSb (rt : Reg) (offset : BitVec 16) (base : Reg) (s : State) : Outcome :=
  let vAddr := s.dataAddress offset base
  s.finishStore (s.storeLanes 0#2 .byte s.bytePlace vAddr
    (shiftIntoLane (s.readOperand .second rt) (s.byteSelect vAddr)))

/-- SH (R114). -/
def execSh (rt : Reg) (offset : BitVec 16) (base : Reg) (s : State) : Outcome :=
  let vAddr := s.dataAddress offset base
  s.finishStore (s.storeLanes 1#2 .halfword s.halfPlace vAddr
    (shiftIntoLane (s.readOperand .second rt) (s.halfSelect vAddr)))

/-- SW (R115): no ReverseEndian adjustment. -/
def execSw (rt : Reg) (offset : BitVec 16) (base : Reg) (s : State) : Outcome :=
  s.finishStore (s.storeLanes 3#2 .word id (s.dataAddress offset base) (s.readOperand .second rt))

/-- SWL (R116): the access type is `byte`. -/
def execSwl (rt : Reg) (offset : BitVec 16) (base : Reg) (s : State) : Outcome :=
  let vAddr := s.dataAddress offset base
  s.finishStore (s.storeLanes 0#2 (.ofNumber (s.byteSelect vAddr)) s.leftPlace vAddr
    (shiftFromLeft (s.readOperand .second rt) (s.byteSelect vAddr)))

/-- SWR (R122): the access type is `3 - byte`. -/
def execSwr (rt : Reg) (offset : BitVec 16) (base : Reg) (s : State) : Outcome :=
  let vAddr := s.dataAddress offset base
  s.finishStore (s.storeLanes 0#2 (.ofNumber (3#2 - s.byteSelect vAddr)) s.rightPlace vAddr
    (shiftIntoLane (s.readOperand .second rt) (s.byteSelect vAddr)))

end Sys2Proof.Machine
end

