-- ==== Sys2Proof/Machine/Dispatch.lean ====
section
/-! DEFINITION. The meaning of every instruction, one arm per constructor. -/

namespace Sys2Proof.Machine

/-- Lines 5 to 10 of the execution cycle for a decoded instruction (10_state.md R16). -/
def exec (i : Instr) (s : State) : Host.Outcome State Fault Refusal :=
  match i with
  | .add rd rs rt => Sys2Proof.Machine.execAdd rd rs rt s
  | .addi rt rs imm => Sys2Proof.Machine.execAddi rt rs imm s
  | .addiu rt rs imm => Sys2Proof.Machine.execAddiu rt rs imm s
  | .addu rd rs rt => Sys2Proof.Machine.execAddu rd rs rt s
  | .and rd rs rt => Sys2Proof.Machine.execAnd rd rs rt s
  | .andi rt rs imm => Sys2Proof.Machine.execAndi rt rs imm s
  | .beq rs rt offset => Sys2Proof.Machine.execBeq rs rt offset s
  | .bne rs rt offset => Sys2Proof.Machine.execBne rs rt offset s
  | .brk code => Sys2Proof.Machine.execBreak code s
  | .j target => Sys2Proof.Machine.execJ target s
  | .jal target => Sys2Proof.Machine.execJal target s
  | .jalr rd rs => Sys2Proof.Machine.execJalr rd rs s
  | .jr rs => Sys2Proof.Machine.execJr rs s
  | .lb rt offset base => Sys2Proof.Machine.execLb rt offset base s
  | .lbu rt offset base => Sys2Proof.Machine.execLbu rt offset base s
  | .lh rt offset base => Sys2Proof.Machine.execLh rt offset base s
  | .lhu rt offset base => Sys2Proof.Machine.execLhu rt offset base s
  | .lui rt imm => Sys2Proof.Machine.execLui rt imm s
  | .lw rt offset base => Sys2Proof.Machine.execLw rt offset base s
  | .lwl rt offset base => Sys2Proof.Machine.execLwl rt offset base s
  | .lwr rt offset base => Sys2Proof.Machine.execLwr rt offset base s
  | .nor rd rs rt => Sys2Proof.Machine.execNor rd rs rt s
  | .or rd rs rt => Sys2Proof.Machine.execOr rd rs rt s
  | .ori rt rs imm => Sys2Proof.Machine.execOri rt rs imm s
  | .sb rt offset base => Sys2Proof.Machine.execSb rt offset base s
  | .sh rt offset base => Sys2Proof.Machine.execSh rt offset base s
  | .sll rd rt sa => Sys2Proof.Machine.execSll rd rt sa s
  | .sllv rd rt rs => Sys2Proof.Machine.execSllv rd rt rs s
  | .slt rd rs rt => Sys2Proof.Machine.execSlt rd rs rt s
  | .slti rt rs imm => Sys2Proof.Machine.execSlti rt rs imm s
  | .sltiu rt rs imm => Sys2Proof.Machine.execSltiu rt rs imm s
  | .sltu rd rs rt => Sys2Proof.Machine.execSltu rd rs rt s
  | .sra rd rt sa => Sys2Proof.Machine.execSra rd rt sa s
  | .srav rd rt rs => Sys2Proof.Machine.execSrav rd rt rs s
  | .srl rd rt sa => Sys2Proof.Machine.execSrl rd rt sa s
  | .srlv rd rt rs => Sys2Proof.Machine.execSrlv rd rt rs s
  | .sub rd rs rt => Sys2Proof.Machine.execSub rd rs rt s
  | .subu rd rs rt => Sys2Proof.Machine.execSubu rd rs rt s
  | .sw rt offset base => Sys2Proof.Machine.execSw rt offset base s
  | .swl rt offset base => Sys2Proof.Machine.execSwl rt offset base s
  | .swr rt offset base => Sys2Proof.Machine.execSwr rt offset base s
  | .xor rd rs rt => Sys2Proof.Machine.execXor rd rs rt s
  | .xori rt rs imm => Sys2Proof.Machine.execXori rt rs imm s
  | .blez rest => Sys2Proof.Machine.execBlez rest s
  | .cop0 rest => Sys2Proof.Machine.execCop0 rest s
  | .cop1 rest => Sys2Proof.Machine.execCop1 rest s
  | .cop2 rest => Sys2Proof.Machine.execCop2 rest s
  | .cop3 rest => Sys2Proof.Machine.execCop3 rest s
  | .beql rest => Sys2Proof.Machine.execBeql rest s
  | .bnel rest => Sys2Proof.Machine.execBnel rest s
  | .blezl rest => Sys2Proof.Machine.execBlezl rest s
  | .ll rest => Sys2Proof.Machine.execLl rest s
  | .lwc1 rest => Sys2Proof.Machine.execLwc1 rest s
  | .lwc2 rest => Sys2Proof.Machine.execLwc2 rest s
  | .lwc3 rest => Sys2Proof.Machine.execLwc3 rest s
  | .ldc1 rest => Sys2Proof.Machine.execLdc1 rest s
  | .ldc2 rest => Sys2Proof.Machine.execLdc2 rest s
  | .sc rest => Sys2Proof.Machine.execSc rest s
  | .swc1 rest => Sys2Proof.Machine.execSwc1 rest s
  | .swc2 rest => Sys2Proof.Machine.execSwc2 rest s
  | .swc3 rest => Sys2Proof.Machine.execSwc3 rest s
  | .sdc1 rest => Sys2Proof.Machine.execSdc1 rest s
  | .sdc2 rest => Sys2Proof.Machine.execSdc2 rest s
  | .syscall rest => Sys2Proof.Machine.execSyscall rest s
  | .mfhi rest => Sys2Proof.Machine.execMfhi rest s
  | .mthi rest => Sys2Proof.Machine.execMthi rest s
  | .mflo rest => Sys2Proof.Machine.execMflo rest s
  | .mtlo rest => Sys2Proof.Machine.execMtlo rest s
  | .mult rest => Sys2Proof.Machine.execMult rest s
  | .multu rest => Sys2Proof.Machine.execMultu rest s
  | .div rest => Sys2Proof.Machine.execDiv rest s
  | .divu rest => Sys2Proof.Machine.execDivu rest s
  | .tge rest => Sys2Proof.Machine.execTge rest s
  | .tgeu rest => Sys2Proof.Machine.execTgeu rest s
  | .tlt rest => Sys2Proof.Machine.execTlt rest s
  | .tltu rest => Sys2Proof.Machine.execTltu rest s
  | .teq rest => Sys2Proof.Machine.execTeq rest s
  | .tne rest => Sys2Proof.Machine.execTne rest s
  | .bltz high low => Sys2Proof.Machine.execBltz high low s
  | .bgez high low => Sys2Proof.Machine.execBgez high low s
  | .bltzal high low => Sys2Proof.Machine.execBltzal high low s
  | .bgezal high low => Sys2Proof.Machine.execBgezal high low s
  | .bltzl high low => Sys2Proof.Machine.execBltzl high low s
  | .bgezl high low => Sys2Proof.Machine.execBgezl high low s
  | .tgei high low => Sys2Proof.Machine.execTgei high low s
  | .teqi high low => Sys2Proof.Machine.execTeqi high low s
  | .tnei high low => Sys2Proof.Machine.execTnei high low s
  | .bltzall high low => Sys2Proof.Machine.execBltzall high low s
  | .bgezall high low => Sys2Proof.Machine.execBgezall high low s
  | .tgeiu high low => Sys2Proof.Machine.execTgeiu high low s
  | .tlti high low => Sys2Proof.Machine.execTlti high low s
  | .tltiu high low => Sys2Proof.Machine.execTltiu high low s

end Sys2Proof.Machine
end

