-- ==== Sys2Proof/WellFormed.lean ====
section
/-! DEFINITION. The marks of the opcode map (30_encoding.md R70) and the check of an instruction against an
implementation. The widths of the fields need no check: the types of Syntax.lean are exactly the fields of R61. -/

namespace Sys2Proof

/-- A mark of the opcode map's key that a surviving cell carries (30_encoding.md R70). Gamma cells stand under COPz
only. -/
inductive Mark where
  /-- No mark. -/
  | plain
  /-- "cause reserved instruction exceptions in R2000/R3000 implementations, and are valid for R4000 implementations". -/
  | alpha
  /-- "not valid for R2000/R3000 implementations, and are valid for R4000/R6000 implementations", not trapped on the
  R2000/R3000. -/
  | beta
  /-- "not valid for R2000/R3000 implementations, and for R4000 implementations cause a reserved instruction exception.
  They are reserved for future versions of the architecture." -/
  | gamma
  /-- The cell stands in the lost column 7: its mark is in no source (30_encoding.md R64). -/
  | lost
  deriving DecidableEq, Repr

/-- The mark of the cell that a COPz word selects (43_coprocessor.md R191, 30_encoding.md R70). DESIGN CHOICE (log 31): a CO
word of COP0 counts as plain. The CP0 Function table marks its operations epsilon, chi or X, at positions that the spec
takes no function code from (30_encoding.md R69), so which CO words carry which mark is not known. -/
def CopForm.mark (f : CopForm) : Mark :=
  match f with
  | .mf _ => .plain
  | .cf _ => .plain
  | .mt _ => .plain
  | .ct _ => .plain
  | .bcf _ => .plain
  | .bct _ => .plain
  | .bcfl _ => .beta
  | .bctl _ => .beta
  | .co _ => .plain
  | .gammaRs _ _ => .gamma
  | .gammaRt _ _ => .gamma
  | .lostRs _ _ => .lost
  | .lostRt _ _ => .lost

/-- The implementation group on which a cell with this mark is valid (30_encoding.md R70). DESIGN CHOICE (log 31): a cell of
the lost column 7, whose entry is in no source (30_encoding.md R64), counts as valid on neither. -/
def Mark.validOn (m : Mark) (impl : Impl) : Bool :=
  match m with
  | .plain => true
  | .alpha => impl == .r4000R6000
  | .beta => impl == .r4000R6000
  | .gamma => false
  | .lost => false

/-- The mark of the instruction's cell in the opcode map, for a COPz word that of the cell it selects (30_encoding.md R68,
R70; 43_coprocessor.md R191). -/
def Instr.mark (i : Instr) : Mark :=
  match i with
  | .add _ _ _ => .plain
  | .addi _ _ _ => .plain
  | .addiu _ _ _ => .plain
  | .addu _ _ _ => .plain
  | .and _ _ _ => .plain
  | .andi _ _ _ => .plain
  | .beq _ _ _ => .plain
  | .bne _ _ _ => .plain
  | .brk _ => .plain
  | .j _ => .plain
  | .jal _ => .plain
  | .jalr _ _ => .plain
  | .jr _ => .plain
  | .lb _ _ _ => .plain
  | .lbu _ _ _ => .plain
  | .lh _ _ _ => .plain
  | .lhu _ _ _ => .plain
  | .lui _ _ => .plain
  | .lw _ _ _ => .plain
  | .lwl _ _ _ => .plain
  | .lwr _ _ _ => .plain
  | .nor _ _ _ => .plain
  | .or _ _ _ => .plain
  | .ori _ _ _ => .plain
  | .sb _ _ _ => .plain
  | .sh _ _ _ => .plain
  | .sll _ _ _ => .plain
  | .sllv _ _ _ => .plain
  | .slt _ _ _ => .plain
  | .slti _ _ _ => .plain
  | .sltiu _ _ _ => .plain
  | .sltu _ _ _ => .plain
  | .sra _ _ _ => .plain
  | .srav _ _ _ => .plain
  | .srl _ _ _ => .plain
  | .srlv _ _ _ => .plain
  | .sub _ _ _ => .plain
  | .subu _ _ _ => .plain
  | .sw _ _ _ => .plain
  | .swl _ _ _ => .plain
  | .swr _ _ _ => .plain
  | .xor _ _ _ => .plain
  | .xori _ _ _ => .plain
  | .blez _ => .plain
  | .cop0 rest => (copForm rest).mark
  | .cop1 rest => (copForm rest).mark
  | .cop2 rest => (copForm rest).mark
  | .cop3 rest => (copForm rest).mark
  | .beql _ => .alpha
  | .bnel _ => .alpha
  | .blezl _ => .alpha
  | .ll _ => .plain
  | .lwc1 _ => .plain
  | .lwc2 _ => .plain
  | .lwc3 _ => .plain
  | .ldc1 _ => .alpha
  | .ldc2 _ => .alpha
  | .sc _ => .plain
  | .swc1 _ => .plain
  | .swc2 _ => .plain
  | .swc3 _ => .plain
  | .sdc1 _ => .alpha
  | .sdc2 _ => .alpha
  | .syscall _ => .plain
  | .mfhi _ => .plain
  | .mthi _ => .plain
  | .mflo _ => .plain
  | .mtlo _ => .plain
  | .mult _ => .plain
  | .multu _ => .plain
  | .div _ => .plain
  | .divu _ => .plain
  | .tge _ => .alpha
  | .tgeu _ => .alpha
  | .tlt _ => .alpha
  | .tltu _ => .alpha
  | .teq _ => .alpha
  | .tne _ => .alpha
  | .bltz _ _ => .plain
  | .bgez _ _ => .plain
  | .bltzal _ _ => .plain
  | .bgezal _ _ => .plain
  | .bltzl _ _ => .beta
  | .bgezl _ _ => .beta
  | .tgei _ _ => .beta
  | .teqi _ _ => .beta
  | .tnei _ _ => .beta
  | .bltzall _ _ => .beta
  | .bgezall _ _ => .beta
  | .tgeiu _ _ => .beta
  | .tlti _ _ => .beta
  | .tltiu _ _ => .beta

/-- LL and SC: instructions that "are provided in the R4000/R6000 implementation of the ISA" (00_scope.md R5 (c),
20_memory.md R49). -/
def Instr.needsLinkBit (i : Instr) : Bool :=
  match i with
  | .add _ _ _ => false
  | .addi _ _ _ => false
  | .addiu _ _ _ => false
  | .addu _ _ _ => false
  | .and _ _ _ => false
  | .andi _ _ _ => false
  | .beq _ _ _ => false
  | .bne _ _ _ => false
  | .brk _ => false
  | .j _ => false
  | .jal _ => false
  | .jalr _ _ => false
  | .jr _ => false
  | .lb _ _ _ => false
  | .lbu _ _ _ => false
  | .lh _ _ _ => false
  | .lhu _ _ _ => false
  | .lui _ _ => false
  | .lw _ _ _ => false
  | .lwl _ _ _ => false
  | .lwr _ _ _ => false
  | .nor _ _ _ => false
  | .or _ _ _ => false
  | .ori _ _ _ => false
  | .sb _ _ _ => false
  | .sh _ _ _ => false
  | .sll _ _ _ => false
  | .sllv _ _ _ => false
  | .slt _ _ _ => false
  | .slti _ _ _ => false
  | .sltiu _ _ _ => false
  | .sltu _ _ _ => false
  | .sra _ _ _ => false
  | .srav _ _ _ => false
  | .srl _ _ _ => false
  | .srlv _ _ _ => false
  | .sub _ _ _ => false
  | .subu _ _ _ => false
  | .sw _ _ _ => false
  | .swl _ _ _ => false
  | .swr _ _ _ => false
  | .xor _ _ _ => false
  | .xori _ _ _ => false
  | .blez _ => false
  | .cop0 _ => false
  | .cop1 _ => false
  | .cop2 _ => false
  | .cop3 _ => false
  | .beql _ => false
  | .bnel _ => false
  | .blezl _ => false
  | .ll _ => true
  | .lwc1 _ => false
  | .lwc2 _ => false
  | .lwc3 _ => false
  | .ldc1 _ => false
  | .ldc2 _ => false
  | .sc _ => true
  | .swc1 _ => false
  | .swc2 _ => false
  | .swc3 _ => false
  | .sdc1 _ => false
  | .sdc2 _ => false
  | .syscall _ => false
  | .mfhi _ => false
  | .mthi _ => false
  | .mflo _ => false
  | .mtlo _ => false
  | .mult _ => false
  | .multu _ => false
  | .div _ => false
  | .divu _ => false
  | .tge _ => false
  | .tgeu _ => false
  | .tlt _ => false
  | .tltu _ => false
  | .teq _ => false
  | .tne _ => false
  | .bltz _ _ => false
  | .bgez _ _ => false
  | .bltzal _ _ => false
  | .bgezal _ _ => false
  | .bltzl _ _ => false
  | .bgezl _ _ => false
  | .tgei _ _ => false
  | .teqi _ _ => false
  | .tnei _ _ => false
  | .bltzall _ _ => false
  | .bgezall _ _ => false
  | .tgeiu _ _ => false
  | .tlti _ _ => false
  | .tltiu _ _ => false

/-- A form that names a coprocessor control register: CF, CT (43_coprocessor.md R191). -/
def CopForm.namesControl (f : CopForm) : Bool :=
  match f with
  | .mf _ => false
  | .cf _ => true
  | .mt _ => false
  | .ct _ => true
  | .bcf _ => false
  | .bct _ => false
  | .bcfl _ => false
  | .bctl _ => false
  | .co _ => false
  | .gammaRs _ _ => false
  | .gammaRt _ _ => false
  | .lostRs _ _ => false
  | .lostRt _ _ => false

/-- The restrictions the text puts on a row beside its mark. JALR: "Register specifiers rs and rd may not be equal"
(42_jump_branch.md R181). COP0: there is no CFC0 or CTC0 use of CP0 (43_coprocessor.md R193). -/
def Instr.restrictionsMet (i : Instr) : Bool :=
  match i with
  | .add _ _ _ => true
  | .addi _ _ _ => true
  | .addiu _ _ _ => true
  | .addu _ _ _ => true
  | .and _ _ _ => true
  | .andi _ _ _ => true
  | .beq _ _ _ => true
  | .bne _ _ _ => true
  | .brk _ => true
  | .j _ => true
  | .jal _ => true
  | .jalr rd rs => rd != rs
  | .jr _ => true
  | .lb _ _ _ => true
  | .lbu _ _ _ => true
  | .lh _ _ _ => true
  | .lhu _ _ _ => true
  | .lui _ _ => true
  | .lw _ _ _ => true
  | .lwl _ _ _ => true
  | .lwr _ _ _ => true
  | .nor _ _ _ => true
  | .or _ _ _ => true
  | .ori _ _ _ => true
  | .sb _ _ _ => true
  | .sh _ _ _ => true
  | .sll _ _ _ => true
  | .sllv _ _ _ => true
  | .slt _ _ _ => true
  | .slti _ _ _ => true
  | .sltiu _ _ _ => true
  | .sltu _ _ _ => true
  | .sra _ _ _ => true
  | .srav _ _ _ => true
  | .srl _ _ _ => true
  | .srlv _ _ _ => true
  | .sub _ _ _ => true
  | .subu _ _ _ => true
  | .sw _ _ _ => true
  | .swl _ _ _ => true
  | .swr _ _ _ => true
  | .xor _ _ _ => true
  | .xori _ _ _ => true
  | .blez _ => true
  | .cop0 rest => !(copForm rest).namesControl
  | .cop1 _ => true
  | .cop2 _ => true
  | .cop3 _ => true
  | .beql _ => true
  | .bnel _ => true
  | .blezl _ => true
  | .ll _ => true
  | .lwc1 _ => true
  | .lwc2 _ => true
  | .lwc3 _ => true
  | .ldc1 _ => true
  | .ldc2 _ => true
  | .sc _ => true
  | .swc1 _ => true
  | .swc2 _ => true
  | .swc3 _ => true
  | .sdc1 _ => true
  | .sdc2 _ => true
  | .syscall _ => true
  | .mfhi _ => true
  | .mthi _ => true
  | .mflo _ => true
  | .mtlo _ => true
  | .mult _ => true
  | .multu _ => true
  | .div _ => true
  | .divu _ => true
  | .tge _ => true
  | .tgeu _ => true
  | .tlt _ => true
  | .tltu _ => true
  | .teq _ => true
  | .tne _ => true
  | .bltz _ _ => true
  | .bgez _ _ => true
  | .bltzal _ _ => true
  | .bgezal _ _ => true
  | .bltzl _ _ => true
  | .bgezl _ _ => true
  | .tgei _ _ => true
  | .teqi _ _ => true
  | .tnei _ _ => true
  | .bltzall _ _ => true
  | .bgezall _ _ => true
  | .tgeiu _ _ => true
  | .tlti _ _ => true
  | .tltiu _ _ => true

/-- The families of the spec: 41_computational.md, 40_load_store.md, 42_jump_branch.md, 44_special.md R200, and the rows
no page describes (44_special.md R202, 43_coprocessor.md R194). -/
inductive Family where
  | computational
  | load
  | store
  | jump
  | special
  | namedOnly
  deriving DecidableEq, Repr

/-- The family of an instruction. -/
def Instr.family (i : Instr) : Family :=
  match i with
  | .add _ _ _ => .computational
  | .addi _ _ _ => .computational
  | .addiu _ _ _ => .computational
  | .addu _ _ _ => .computational
  | .and _ _ _ => .computational
  | .andi _ _ _ => .computational
  | .beq _ _ _ => .jump
  | .bne _ _ _ => .jump
  | .brk _ => .special
  | .j _ => .jump
  | .jal _ => .jump
  | .jalr _ _ => .jump
  | .jr _ => .jump
  | .lb _ _ _ => .load
  | .lbu _ _ _ => .load
  | .lh _ _ _ => .load
  | .lhu _ _ _ => .load
  | .lui _ _ => .computational
  | .lw _ _ _ => .load
  | .lwl _ _ _ => .load
  | .lwr _ _ _ => .load
  | .nor _ _ _ => .computational
  | .or _ _ _ => .computational
  | .ori _ _ _ => .computational
  | .sb _ _ _ => .store
  | .sh _ _ _ => .store
  | .sll _ _ _ => .computational
  | .sllv _ _ _ => .computational
  | .slt _ _ _ => .computational
  | .slti _ _ _ => .computational
  | .sltiu _ _ _ => .computational
  | .sltu _ _ _ => .computational
  | .sra _ _ _ => .computational
  | .srav _ _ _ => .computational
  | .srl _ _ _ => .computational
  | .srlv _ _ _ => .computational
  | .sub _ _ _ => .computational
  | .subu _ _ _ => .computational
  | .sw _ _ _ => .store
  | .swl _ _ _ => .store
  | .swr _ _ _ => .store
  | .xor _ _ _ => .computational
  | .xori _ _ _ => .computational
  | .blez _ => .namedOnly
  | .cop0 _ => .namedOnly
  | .cop1 _ => .namedOnly
  | .cop2 _ => .namedOnly
  | .cop3 _ => .namedOnly
  | .beql _ => .namedOnly
  | .bnel _ => .namedOnly
  | .blezl _ => .namedOnly
  | .ll _ => .namedOnly
  | .lwc1 _ => .namedOnly
  | .lwc2 _ => .namedOnly
  | .lwc3 _ => .namedOnly
  | .ldc1 _ => .namedOnly
  | .ldc2 _ => .namedOnly
  | .sc _ => .namedOnly
  | .swc1 _ => .namedOnly
  | .swc2 _ => .namedOnly
  | .swc3 _ => .namedOnly
  | .sdc1 _ => .namedOnly
  | .sdc2 _ => .namedOnly
  | .syscall _ => .namedOnly
  | .mfhi _ => .namedOnly
  | .mthi _ => .namedOnly
  | .mflo _ => .namedOnly
  | .mtlo _ => .namedOnly
  | .mult _ => .namedOnly
  | .multu _ => .namedOnly
  | .div _ => .namedOnly
  | .divu _ => .namedOnly
  | .tge _ => .namedOnly
  | .tgeu _ => .namedOnly
  | .tlt _ => .namedOnly
  | .tltu _ => .namedOnly
  | .teq _ => .namedOnly
  | .tne _ => .namedOnly
  | .bltz _ _ => .namedOnly
  | .bgez _ _ => .namedOnly
  | .bltzal _ _ => .namedOnly
  | .bgezal _ _ => .namedOnly
  | .bltzl _ _ => .namedOnly
  | .bgezl _ _ => .namedOnly
  | .tgei _ _ => .namedOnly
  | .teqi _ _ => .namedOnly
  | .tnei _ _ => .namedOnly
  | .bltzall _ _ => .namedOnly
  | .bgezall _ _ => .namedOnly
  | .tgeiu _ _ => .namedOnly
  | .tlti _ _ => .namedOnly
  | .tltiu _ _ => .namedOnly

/-- An instruction that software may use on an implementation group: its cell is valid there (30_encoding.md R70),
LL and SC only where they are provided (00_scope.md R5), and the restrictions on JALR and COP0 are met (42_jump_branch.md R181, 43_coprocessor.md R193). -/
def Instr.wellFormed (impl : Impl) (i : Instr) : Bool :=
  i.restrictionsMet && i.mark.validOn impl && (impl == .r4000R6000 || !i.needsLinkBit)

end Sys2Proof
end

