-- ==== Sys2Proof/Decode.lean ====
section
/-! DEFINITION. Decoding (30_encoding.md R71), the encoder (R61, R67, R68), and the byte layout of an instruction word
(R60, 20_memory.md R43). -/

namespace Sys2Proof

/-! ## Fields of a word (30_encoding.md R61) -/

/-- Bits 31..26. -/
def opField (w : Word) : BitVec 6 := w.extractLsb' 26 6

/-- Bits 25..21, `rs` or `base`. -/
def rsField (w : Word) : Reg := w.extractLsb' 21 5

/-- Bits 20..16. -/
def rtField (w : Word) : Reg := w.extractLsb' 16 5

/-- Bits 15..11. -/
def rdField (w : Word) : Reg := w.extractLsb' 11 5

/-- Bits 10..6. -/
def saField (w : Word) : BitVec 5 := w.extractLsb' 6 5

/-- Bits 5..0. -/
def functionField (w : Word) : BitVec 6 := w.extractLsb' 0 6

/-- Bits 15..0, `immediate` or `offset`. -/
def immField (w : Word) : BitVec 16 := w.extractLsb' 0 16

/-- Bits 25..0. -/
def targetField (w : Word) : BitVec 26 := w.extractLsb' 0 26

/-- Bits 25..6, BREAK's `code` (30_encoding.md R72) and the uninterpreted bits of a named-only SPECIAL row. -/
def codeField (w : Word) : BitVec 20 := w.extractLsb' 6 20

/-! ## Decoding -/

/-- Why a word is no row of the opcode table (30_encoding.md R71). -/
inductive Rejected where
  /-- A `*` cell: "cause reserved instruction exceptions in all current implementations" (R70). -/
  | reserved
  /-- A described instruction's opcode with a non-zero bit in a field its row of R67 shows as zero. -/
  | nonzeroField (mnemonic : String)
  /-- An `X` cell, for which the key has no entry (R76). -/
  | unkeyed
  /-- A cell of the lost column 7 that no box recovers (R64, R66). -/
  | lostColumn
  deriving DecidableEq, Repr

/-- What a word decodes to: a row of the table, or a rejection by name. -/
inductive Decoded where
  | instr (i : Instr)
  | rejected (why : Rejected)
  deriving DecidableEq, Repr

/-- The row `i`, if the fields R67 shows as zero are zero (R71 (1), (3)). -/
def ifZero (zero : Bool) (mnemonic : String) (i : Instr) : Decoded :=
  if zero then .instr i else .rejected (.nonzeroField mnemonic)

/-- The SPECIAL function table, `op = 000000` (30_encoding.md R66, R68, R70). -/
def decodeSpecial (w : Word) : Decoded :=
  match functionField w with
  | 0b000000#6 => ifZero (rsField w == 0) "SLL" (.sll (rdField w) (rtField w) (saField w))
  | 0b000001#6 => .rejected .reserved
  | 0b000010#6 => ifZero (rsField w == 0) "SRL" (.srl (rdField w) (rtField w) (saField w))
  | 0b000011#6 => ifZero (rsField w == 0) "SRA" (.sra (rdField w) (rtField w) (saField w))
  | 0b000100#6 => ifZero (saField w == 0) "SLLV" (.sllv (rdField w) (rtField w) (rsField w))
  | 0b000101#6 => .rejected .reserved
  | 0b000110#6 => ifZero (saField w == 0) "SRLV" (.srlv (rdField w) (rtField w) (rsField w))
  | 0b000111#6 => ifZero (saField w == 0) "SRAV" (.srav (rdField w) (rtField w) (rsField w))
  | 0b001000#6 => ifZero (rtField w == 0 && rdField w == 0 && saField w == 0) "JR" (.jr (rsField w))
  | 0b001001#6 => ifZero (rtField w == 0 && saField w == 0) "JALR" (.jalr (rdField w) (rsField w))
  | 0b001010#6 => .rejected .reserved
  | 0b001011#6 => .rejected .reserved
  | 0b001100#6 => .instr (.syscall (codeField w))
  | 0b001101#6 => .instr (.brk (codeField w))
  | 0b001110#6 => .rejected .reserved
  | 0b010000#6 => .instr (.mfhi (codeField w))
  | 0b010001#6 => .instr (.mthi (codeField w))
  | 0b010010#6 => .instr (.mflo (codeField w))
  | 0b010011#6 => .instr (.mtlo (codeField w))
  | 0b010100#6 => .rejected .reserved
  | 0b010101#6 => .rejected .reserved
  | 0b010110#6 => .rejected .reserved
  | 0b011000#6 => .instr (.mult (codeField w))
  | 0b011001#6 => .instr (.multu (codeField w))
  | 0b011010#6 => .instr (.div (codeField w))
  | 0b011011#6 => .instr (.divu (codeField w))
  | 0b011100#6 => .rejected .reserved
  | 0b011101#6 => .rejected .reserved
  | 0b011110#6 => .rejected .reserved
  | 0b100000#6 => ifZero (saField w == 0) "ADD" (.add (rdField w) (rsField w) (rtField w))
  | 0b100001#6 => ifZero (saField w == 0) "ADDU" (.addu (rdField w) (rsField w) (rtField w))
  | 0b100010#6 => ifZero (saField w == 0) "SUB" (.sub (rdField w) (rsField w) (rtField w))
  | 0b100011#6 => ifZero (saField w == 0) "SUBU" (.subu (rdField w) (rsField w) (rtField w))
  | 0b100100#6 => ifZero (saField w == 0) "AND" (.and (rdField w) (rsField w) (rtField w))
  | 0b100101#6 => ifZero (saField w == 0) "OR" (.or (rdField w) (rsField w) (rtField w))
  | 0b100110#6 => ifZero (saField w == 0) "XOR" (.xor (rdField w) (rsField w) (rtField w))
  | 0b100111#6 => ifZero (saField w == 0) "NOR" (.nor (rdField w) (rsField w) (rtField w))
  | 0b101000#6 => .rejected .reserved
  | 0b101001#6 => .rejected .reserved
  | 0b101010#6 => ifZero (saField w == 0) "SLT" (.slt (rdField w) (rsField w) (rtField w))
  | 0b101011#6 => ifZero (saField w == 0) "SLTU" (.sltu (rdField w) (rsField w) (rtField w))
  | 0b101100#6 => .rejected .reserved
  | 0b101101#6 => .rejected .reserved
  | 0b101110#6 => .rejected .reserved
  | 0b110000#6 => .instr (.tge (codeField w))
  | 0b110001#6 => .instr (.tgeu (codeField w))
  | 0b110010#6 => .instr (.tlt (codeField w))
  | 0b110011#6 => .instr (.tltu (codeField w))
  | 0b110100#6 => .instr (.teq (codeField w))
  | 0b110101#6 => .rejected .reserved
  | 0b110110#6 => .instr (.tne (codeField w))
  | 0b111000#6 => .rejected .reserved
  | 0b111001#6 => .rejected .reserved
  | 0b111010#6 => .rejected .reserved
  | 0b111011#6 => .rejected .reserved
  | 0b111100#6 => .rejected .reserved
  | 0b111101#6 => .rejected .reserved
  | 0b111110#6 => .rejected .reserved
  | _ => .rejected .lostColumn -- 001111, 010111, 011111, 101111, 110111, 111111

/-- The REGIMM `rt` table, `op = 000001` (30_encoding.md R68, R70). -/
def decodeRegimm (w : Word) : Decoded :=
  match rtField w with
  | 0b00000#5 => .instr (.bltz (rsField w) (immField w))
  | 0b00001#5 => .instr (.bgez (rsField w) (immField w))
  | 0b00010#5 => .instr (.bltzl (rsField w) (immField w))
  | 0b00011#5 => .instr (.bgezl (rsField w) (immField w))
  | 0b00100#5 => .rejected .reserved
  | 0b00101#5 => .rejected .reserved
  | 0b00110#5 => .rejected .reserved
  | 0b01000#5 => .instr (.tgei (rsField w) (immField w))
  | 0b01001#5 => .instr (.tgeiu (rsField w) (immField w))
  | 0b01010#5 => .instr (.tlti (rsField w) (immField w))
  | 0b01011#5 => .instr (.tltiu (rsField w) (immField w))
  | 0b01100#5 => .instr (.teqi (rsField w) (immField w))
  | 0b01101#5 => .rejected .reserved
  | 0b01110#5 => .instr (.tnei (rsField w) (immField w))
  | 0b10000#5 => .instr (.bltzal (rsField w) (immField w))
  | 0b10001#5 => .instr (.bgezal (rsField w) (immField w))
  | 0b10010#5 => .instr (.bltzall (rsField w) (immField w))
  | 0b10011#5 => .instr (.bgezall (rsField w) (immField w))
  | 0b10100#5 => .rejected .reserved
  | 0b10101#5 => .rejected .reserved
  | 0b10110#5 => .rejected .reserved
  | 0b11000#5 => .rejected .reserved
  | 0b11001#5 => .rejected .reserved
  | 0b11010#5 => .rejected .reserved
  | 0b11011#5 => .rejected .reserved
  | 0b11100#5 => .rejected .reserved
  | 0b11101#5 => .rejected .reserved
  | 0b11110#5 => .rejected .reserved
  | _ => .rejected .lostColumn -- 00111, 01111, 10111, 11111

/-- Decoding of every 32-bit word (30_encoding.md R71). The alpha rows decode to their instruction here; the
Reserved Instruction exception they raise on the R2000/R3000 is their meaning. -/
def decode (w : Word) : Decoded :=
  match opField w with
  | 0b000000#6 => decodeSpecial w
  | 0b000001#6 => decodeRegimm w
  | 0b000010#6 => .instr (.j (targetField w))
  | 0b000011#6 => .instr (.jal (targetField w))
  | 0b000100#6 => .instr (.beq (rsField w) (rtField w) (immField w))
  | 0b000101#6 => .instr (.bne (rsField w) (rtField w) (immField w))
  | 0b000110#6 => .instr (.blez (targetField w))
  | 0b001000#6 => .instr (.addi (rtField w) (rsField w) (immField w))
  | 0b001001#6 => .instr (.addiu (rtField w) (rsField w) (immField w))
  | 0b001010#6 => .instr (.slti (rtField w) (rsField w) (immField w))
  | 0b001011#6 => .instr (.sltiu (rtField w) (rsField w) (immField w))
  | 0b001100#6 => .instr (.andi (rtField w) (rsField w) (immField w))
  | 0b001101#6 => .instr (.ori (rtField w) (rsField w) (immField w))
  | 0b001110#6 => .instr (.xori (rtField w) (rsField w) (immField w))
  | 0b001111#6 => ifZero (rsField w == 0) "LUI" (.lui (rtField w) (immField w))
  | 0b010000#6 => .instr (.cop0 (targetField w))
  | 0b010001#6 => .instr (.cop1 (targetField w))
  | 0b010010#6 => .instr (.cop2 (targetField w))
  | 0b010011#6 => .instr (.cop3 (targetField w))
  | 0b010100#6 => .instr (.beql (targetField w))
  | 0b010101#6 => .instr (.bnel (targetField w))
  | 0b010110#6 => .instr (.blezl (targetField w))
  | 0b011000#6 => .rejected .unkeyed
  | 0b011001#6 => .rejected .unkeyed
  | 0b011010#6 => .rejected .unkeyed
  | 0b011011#6 => .rejected .unkeyed
  | 0b011100#6 => .rejected .unkeyed
  | 0b011101#6 => .rejected .unkeyed
  | 0b011110#6 => .rejected .unkeyed
  | 0b100000#6 => .instr (.lb (rtField w) (immField w) (rsField w))
  | 0b100001#6 => .instr (.lh (rtField w) (immField w) (rsField w))
  | 0b100010#6 => .instr (.lwl (rtField w) (immField w) (rsField w))
  | 0b100011#6 => .instr (.lw (rtField w) (immField w) (rsField w))
  | 0b100100#6 => .instr (.lbu (rtField w) (immField w) (rsField w))
  | 0b100101#6 => .instr (.lhu (rtField w) (immField w) (rsField w))
  | 0b100110#6 => .instr (.lwr (rtField w) (immField w) (rsField w))
  | 0b101000#6 => .instr (.sb (rtField w) (immField w) (rsField w))
  | 0b101001#6 => .instr (.sh (rtField w) (immField w) (rsField w))
  | 0b101010#6 => .instr (.swl (rtField w) (immField w) (rsField w))
  | 0b101011#6 => .instr (.sw (rtField w) (immField w) (rsField w))
  | 0b101100#6 => .rejected .unkeyed
  | 0b101101#6 => .rejected .unkeyed
  | 0b101110#6 => .instr (.swr (rtField w) (immField w) (rsField w))
  | 0b110000#6 => .instr (.ll (targetField w))
  | 0b110001#6 => .instr (.lwc1 (targetField w))
  | 0b110010#6 => .instr (.lwc2 (targetField w))
  | 0b110011#6 => .instr (.lwc3 (targetField w))
  | 0b110100#6 => .rejected .unkeyed
  | 0b110101#6 => .instr (.ldc1 (targetField w))
  | 0b110110#6 => .instr (.ldc2 (targetField w))
  | 0b111000#6 => .instr (.sc (targetField w))
  | 0b111001#6 => .instr (.swc1 (targetField w))
  | 0b111010#6 => .instr (.swc2 (targetField w))
  | 0b111011#6 => .instr (.swc3 (targetField w))
  | 0b111100#6 => .rejected .unkeyed
  | 0b111101#6 => .instr (.sdc1 (targetField w))
  | 0b111110#6 => .instr (.sdc2 (targetField w))
  | _ => .rejected .lostColumn -- 000111, 010111, 011111, 100111, 101111, 110111, 111111

/-! ## Byte layout of a word -/

/-- The word whose bytes stand at four rising addresses: the byte at the smallest address is the leftmost one if
`BigEndianMem = 1`, the rightmost one otherwise (20_memory.md R41 (c), R54). -/
def wordOfBytes (bigEndian : Bool) (b0 b1 b2 b3 : Byte) : Word :=
  if bigEndian then b0 ++ b1 ++ b2 ++ b3 else b3 ++ b2 ++ b1 ++ b0

/-- The byte at offset `k` of a word laid out in memory (20_memory.md R54). -/
def byteOfWord (bigEndian : Bool) (w : Word) (k : BitVec 2) : Byte :=
  w.extractLsb' (8 * (if bigEndian then 3#2 - k else k).toNat) 8

/-- Decoding of four bytes at rising addresses: a fetch is a WORD access in the byte order of `BigEndianMem`
(30_encoding.md R60, 20_memory.md R43). -/
def decodeBytes (bigEndian : Bool) (b0 b1 b2 b3 : Byte) : Decoded :=
  decode (wordOfBytes bigEndian b0 b1 b2 b3)

/-- The instruction a word decodes to, if any. -/
def Decoded.instr? (d : Decoded) : Option Instr :=
  match d with
  | .instr i => some i
  | .rejected _ => none

/-- The instruction the decoder reads from a word numbered as the opcode table numbers it: laid out as the hardware
stores it and given to the decoder. Every instruction is one 32-bit word (30_encoding.md R60). -/
def decodeTableWord (nbits w : Nat) : Option Instr :=
  let word := BitVec.ofNat 32 (w % 2 ^ nbits)
  (decodeBytes true (byteOfWord true word 0) (byteOfWord true word 1) (byteOfWord true word 2)
    (byteOfWord true word 3)).instr?

/-! ## Encoding -/

/-- An R-type word (30_encoding.md R61). -/
def encodeR (op : BitVec 6) (rs rt rd : Reg) (sa : BitVec 5) (function : BitVec 6) : Word :=
  op ++ rs ++ rt ++ rd ++ sa ++ function

/-- An I-type word (30_encoding.md R61). -/
def encodeI (op : BitVec 6) (rs rt : Reg) (immediate : BitVec 16) : Word :=
  op ++ rs ++ rt ++ immediate

/-- A J-type word, also a primary row with 26 uninterpreted bits (30_encoding.md R61). -/
def encodeJ (op : BitVec 6) (target : BitVec 26) : Word :=
  op ++ target

/-- A SPECIAL word with the 20 bits between `op` and `function` in one piece: BREAK (30_encoding.md R72) and the
named-only functions. -/
def encodeCode (code : BitVec 20) (function : BitVec 6) : Word :=
  0b000000#6 ++ code ++ function

/-- The word of an instruction, from the encodings of 30_encoding.md R67 and R68. -/
def encode (i : Instr) : Word :=
  match i with
  | .add rd rs rt => encodeR 0b000000#6 rs rt rd 0 0b100000#6
  | .addi rt rs imm => encodeI 0b001000#6 rs rt imm
  | .addiu rt rs imm => encodeI 0b001001#6 rs rt imm
  | .addu rd rs rt => encodeR 0b000000#6 rs rt rd 0 0b100001#6
  | .and rd rs rt => encodeR 0b000000#6 rs rt rd 0 0b100100#6
  | .andi rt rs imm => encodeI 0b001100#6 rs rt imm
  | .beq rs rt offset => encodeI 0b000100#6 rs rt offset
  | .bne rs rt offset => encodeI 0b000101#6 rs rt offset
  | .brk code => encodeCode code 0b001101#6
  | .j target => encodeJ 0b000010#6 target
  | .jal target => encodeJ 0b000011#6 target
  | .jalr rd rs => encodeR 0b000000#6 rs 0 rd 0 0b001001#6
  | .jr rs => encodeR 0b000000#6 rs 0 0 0 0b001000#6
  | .lb rt offset base => encodeI 0b100000#6 base rt offset
  | .lbu rt offset base => encodeI 0b100100#6 base rt offset
  | .lh rt offset base => encodeI 0b100001#6 base rt offset
  | .lhu rt offset base => encodeI 0b100101#6 base rt offset
  | .lui rt imm => encodeI 0b001111#6 0 rt imm
  | .lw rt offset base => encodeI 0b100011#6 base rt offset
  | .lwl rt offset base => encodeI 0b100010#6 base rt offset
  | .lwr rt offset base => encodeI 0b100110#6 base rt offset
  | .nor rd rs rt => encodeR 0b000000#6 rs rt rd 0 0b100111#6
  | .or rd rs rt => encodeR 0b000000#6 rs rt rd 0 0b100101#6
  | .ori rt rs imm => encodeI 0b001101#6 rs rt imm
  | .sb rt offset base => encodeI 0b101000#6 base rt offset
  | .sh rt offset base => encodeI 0b101001#6 base rt offset
  | .sll rd rt sa => encodeR 0b000000#6 0 rt rd sa 0b000000#6
  | .sllv rd rt rs => encodeR 0b000000#6 rs rt rd 0 0b000100#6
  | .slt rd rs rt => encodeR 0b000000#6 rs rt rd 0 0b101010#6
  | .slti rt rs imm => encodeI 0b001010#6 rs rt imm
  | .sltiu rt rs imm => encodeI 0b001011#6 rs rt imm
  | .sltu rd rs rt => encodeR 0b000000#6 rs rt rd 0 0b101011#6
  | .sra rd rt sa => encodeR 0b000000#6 0 rt rd sa 0b000011#6
  | .srav rd rt rs => encodeR 0b000000#6 rs rt rd 0 0b000111#6
  | .srl rd rt sa => encodeR 0b000000#6 0 rt rd sa 0b000010#6
  | .srlv rd rt rs => encodeR 0b000000#6 rs rt rd 0 0b000110#6
  | .sub rd rs rt => encodeR 0b000000#6 rs rt rd 0 0b100010#6
  | .subu rd rs rt => encodeR 0b000000#6 rs rt rd 0 0b100011#6
  | .sw rt offset base => encodeI 0b101011#6 base rt offset
  | .swl rt offset base => encodeI 0b101010#6 base rt offset
  | .swr rt offset base => encodeI 0b101110#6 base rt offset
  | .xor rd rs rt => encodeR 0b000000#6 rs rt rd 0 0b100110#6
  | .xori rt rs imm => encodeI 0b001110#6 rs rt imm
  | .blez rest => encodeJ 0b000110#6 rest
  | .cop0 rest => encodeJ 0b010000#6 rest
  | .cop1 rest => encodeJ 0b010001#6 rest
  | .cop2 rest => encodeJ 0b010010#6 rest
  | .cop3 rest => encodeJ 0b010011#6 rest
  | .beql rest => encodeJ 0b010100#6 rest
  | .bnel rest => encodeJ 0b010101#6 rest
  | .blezl rest => encodeJ 0b010110#6 rest
  | .ll rest => encodeJ 0b110000#6 rest
  | .lwc1 rest => encodeJ 0b110001#6 rest
  | .lwc2 rest => encodeJ 0b110010#6 rest
  | .lwc3 rest => encodeJ 0b110011#6 rest
  | .ldc1 rest => encodeJ 0b110101#6 rest
  | .ldc2 rest => encodeJ 0b110110#6 rest
  | .sc rest => encodeJ 0b111000#6 rest
  | .swc1 rest => encodeJ 0b111001#6 rest
  | .swc2 rest => encodeJ 0b111010#6 rest
  | .swc3 rest => encodeJ 0b111011#6 rest
  | .sdc1 rest => encodeJ 0b111101#6 rest
  | .sdc2 rest => encodeJ 0b111110#6 rest
  | .syscall rest => encodeCode rest 0b001100#6
  | .mfhi rest => encodeCode rest 0b010000#6
  | .mthi rest => encodeCode rest 0b010001#6
  | .mflo rest => encodeCode rest 0b010010#6
  | .mtlo rest => encodeCode rest 0b010011#6
  | .mult rest => encodeCode rest 0b011000#6
  | .multu rest => encodeCode rest 0b011001#6
  | .div rest => encodeCode rest 0b011010#6
  | .divu rest => encodeCode rest 0b011011#6
  | .tge rest => encodeCode rest 0b110000#6
  | .tgeu rest => encodeCode rest 0b110001#6
  | .tlt rest => encodeCode rest 0b110010#6
  | .tltu rest => encodeCode rest 0b110011#6
  | .teq rest => encodeCode rest 0b110100#6
  | .tne rest => encodeCode rest 0b110110#6
  | .bltz high low => encodeI 0b000001#6 high 0b00000#5 low
  | .bgez high low => encodeI 0b000001#6 high 0b00001#5 low
  | .bltzal high low => encodeI 0b000001#6 high 0b10000#5 low
  | .bgezal high low => encodeI 0b000001#6 high 0b10001#5 low
  | .bltzl high low => encodeI 0b000001#6 high 0b00010#5 low
  | .bgezl high low => encodeI 0b000001#6 high 0b00011#5 low
  | .tgei high low => encodeI 0b000001#6 high 0b01000#5 low
  | .teqi high low => encodeI 0b000001#6 high 0b01100#5 low
  | .tnei high low => encodeI 0b000001#6 high 0b01110#5 low
  | .bltzall high low => encodeI 0b000001#6 high 0b10010#5 low
  | .bgezall high low => encodeI 0b000001#6 high 0b10011#5 low
  | .tgeiu high low => encodeI 0b000001#6 high 0b01001#5 low
  | .tlti high low => encodeI 0b000001#6 high 0b01010#5 low
  | .tltiu high low => encodeI 0b000001#6 high 0b01011#5 low

end Sys2Proof
end

