-- ==== Sys2Proof/Machine/Fetch.lean ====
section
/-! DEFINITION. Instruction fetch (10_state.md R16 lines 2 and 3, 20_memory.md R43, R50), what a word that is no row of
the table does (30_encoding.md R71), and how a word is put where the next fetch reads it. -/

namespace Sys2Proof.Machine

/-- What a fetch answers. -/
inductive Fetched where
  /-- The instruction word. -/
  | word (w : Word)
  /-- The fetch raises an exception. -/
  | raises (r : Raise)
  /-- The fetch is refused. -/
  | refuses (r : Refusal)
  /-- The run has ended (60_exceptions.md R220). -/
  | ended (f : Fault)
  deriving DecidableEq, Repr

/-- A byte of the word was written by a store of the run (20_memory.md R50). -/
def State.wordWritten (s : State) (frame : Nat) : Bool :=
  s.written.any fun a => a / 4 == frame

/-- The fetch from a translated address: a WORD access through LoadMemory in the byte order of `BigEndianMem`
(20_memory.md R43), refused if a store has written to the word (R50). -/
def State.fetchWord (s : State) (p : PAddr) (uncached : Bool) : Fetched :=
  match s.loadMemory uncached .word p .fetch with
  | .error r => .raises r
  | .ok m => if s.wordWritten p.frame then .refuses .storedInstruction else .word m.word

/-- Lines 2 and 3 of the execution cycle (10_state.md R16). A state in which an exception was taken fetches nothing:
the run has ended (60_exceptions.md R220, log 9). -/
def State.fetch (s : State) : Fetched :=
  match s.raised with
  | some info => .ended (.exceptionOutcome info s.epc)
  | none =>
    if alignedTo 3#2 s.pc then
      match addressTranslation s.cfg s.pc .fetch with
      | .error r => .raises r
      | .ok (p, uncached) => s.fetchWord p uncached
    else .raises (.misaligned s.pc .fetch)

/-- Line 4 of the execution cycle for a word that is no row of the table: a `*` cell raises Reserved Instruction, any
other word is refused by name (30_encoding.md R71). -/
def rejectWord (why : Rejected) (s : State) : Outcome :=
  match why with
  | .reserved => s.takeException (.plain .reservedInstruction)
  | .nonzeroField mnemonic => .refused (.nonzeroField mnemonic)
  | .unkeyed => .refused .unkeyedOpcode
  | .lostColumn => .refused .lostOpcode

/-- A byte given to memory from outside the machine, before the program runs: no store of the run (70_reset_and_hazards.md
R252, log 22). -/
def State.placeByte (s : State) (a : Nat) (b : Byte) : State :=
  { s with mem := s.mem.write a b, written := unmarkAddress s.written a }

/-- A word given to memory from outside, in the byte order of `BigEndianMem` (20_memory.md R54). -/
def State.placeWord (s : State) (frame : Nat) (w : Word) : State :=
  let be := s.cfg.bigEndianMem
  (((s.placeByte (4 * frame) (byteOfWord be w 0#2)).placeByte (4 * frame + 1) (byteOfWord be w 1#2)).placeByte
    (4 * frame + 2) (byteOfWord be w 2#2)).placeByte (4 * frame + 3) (byteOfWord be w 3#2)

/-- The state with a word where the next fetch reads it. -/
def State.placeAtPc (s : State) (w : Word) : State :=
  match addressTranslation s.cfg s.pc .fetch with
  | .ok (p, _) => { s.placeWord p.frame w with raised := none }
  | .error _ => s

end Sys2Proof.Machine
end

