-- ==== Sys2Proof/Machine/Step.lean ====
section
/-! DEFINITION. One step: the execution cycle (10_state.md R16). -/

namespace Sys2Proof.Machine

/-- The cycle after the fetch: decode, then the instruction's meaning. -/
def runWord (w : Word) (s : State) : Outcome :=
  match decode w with
  | .instr i => exec i s
  | .rejected why => rejectWord why s

/-- One step of the machine executes one instruction (10_state.md R16). -/
def step (s : State) : Host.Outcome State Fault Refusal :=
  match s.fetch with
  | .word w => runWord w s
  | .raises r => s.takeException r
  | .refuses r => .refused r
  | .ended f => .fault f

/-- The state with the instruction `w` (of `nbits` bits, the bits above zero) stored where `step` fetches next. -/
def State.withFetchWord (s : State) (nbits w : Nat) : State :=
  s.placeAtPc (BitVec.ofNat 32 (w % 2 ^ nbits))

end Sys2Proof.Machine
end

