-- ==== Sys2Proof/Safety.lean ====
section
/-! DEFINITION. What counts as a good state and as a run that goes on, in the terms the claims use. -/

namespace Sys2Proof.Machine

/-- The step went on: no fault and no refusal. -/
def Completes (o : Outcome) : Prop := ∃ t, o = .next t

/-- The run has ended with an exception (70_reset_and_hazards.md R264 (a)). -/
def State.ended (s : State) : Bool := s.raised.isSome

/-- `pending` holds a register 1 to 31 and exists on the R2000/R3000 only (10_state.md R18). -/
def State.pendingWf (s : State) : Bool :=
  match s.pending with
  | none => true
  | some (r, _) => r != 0#5 && s.cfg.impl == .r2000R3000

/-- The outcome recorded agrees with `in_delay` and EPC (60_exceptions.md R217, R220). -/
def State.raisedWf (s : State) : Bool :=
  match s.raised with
  | none => true
  | some info => info.bd == s.inDelay && s.epc == s.restartAddress

/-- The invariant of the machine: memory and the record of written addresses are canonical, the storage of register 0
is zero (10_state.md R11), `pending` is well formed (R18), outside a delay slot the next instruction is the following
word (R15), and a recorded outcome is the one of 60_exceptions.md R217. -/
def State.wf (s : State) : Bool :=
  s.mem.wf && addressesWf s.written && s.regs[0] == 0#32 && s.pendingWf
    && (s.inDelay || s.npc == s.pc + 4#32) && s.raisedWf

/-- The parts of the state no instruction of this spec changes: the arguments of the model (10_state.md, "`Config` is
not state"), SR and the mode (R21, R28), HI and LO (R26), the LL bit (R25) and the coprocessors (R24). -/
def State.sameFixedParts (s t : State) : Prop :=
  t.cfg = s.cfg ∧ t.sr = s.sr ∧ t.mode = s.mode ∧ t.hi = s.hi ∧ t.lo = s.lo ∧ t.llBit = s.llBit ∧ t.cop = s.cop

/-! ## What a step leaves, in the terms of the spec -/

/-- The contents of a source register are defined: it is not the register a load is still delivering
(70_reset_and_hazards.md R255). Register 0 always is (10_state.md R11). -/
def State.defined (s : State) (x : Reg) : Bool :=
  match s.pending with
  | some (p, _) => x == 0#5 || x != p
  | none => true

/-- What a register holds once the pending load, if any, has arrived (10_state.md R16 line 8a, R18). -/
def State.arrived (s : State) (x : Reg) : Word :=
  match s.pending with
  | some (p, v) => if x = p ∧ x ≠ 0#5 then v else s.readGpr x
  | none => s.readGpr x

/-- Every register holds what it held, the pending load's register the loaded value, and no load is pending. -/
def RegistersArrive (s t : State) : Prop := (∀ x, t.readGpr x = s.arrived x) ∧ t.pending = none

/-- Every byte of memory reads as before. -/
def SameMemory (s t : State) : Prop := ∀ a, t.mem.read a = s.mem.read a

/-- The parts no register-only instruction changes: memory, the record of stored addresses, EPC, the outcome, and the
fixed parts. -/
def Quiet (s t : State) : Prop :=
  SameMemory s t ∧ t.written = s.written ∧ t.epc = s.epc ∧ t.raised = s.raised ∧ s.sameFixedParts t

/-- Execution goes on with the following word (10_state.md R16 lines 9 and 10). -/
def FollowsOn (s t : State) : Prop := t.pc = s.npc ∧ t.npc = s.npc + 4#32 ∧ t.inDelay = false

/-- Execution goes on with the delay slot, and then at `next` (10_state.md R16 lines 9 and 10). -/
def JumpsTo (s t : State) (next : Word) : Prop := t.pc = s.npc ∧ t.npc = next ∧ t.inDelay = true

/-- A non-load write of `rd`: `rd` holds the value if the sources are defined and no load delivers `rd` in the same time
step (70_reset_and_hazards.md R260); register 0 holds zero; every other register holds what has arrived. -/
def WritesRegister (s t : State) (sources : Prop) (rd : Reg) (v : Word) : Prop :=
  (sources → s.defined rd → rd ≠ 0#5 → t.readGpr rd = v) ∧ t.readGpr 0#5 = 0#32 ∧
  (∀ x, x ≠ rd → t.readGpr x = s.arrived x) ∧ t.pending = none

/-- A computational instruction: one register written, everything else as it was (41_computational.md, preamble). -/
def ComputesRegister (s t : State) (sources : Prop) (rd : Reg) (v : Word) : Prop :=
  WritesRegister s t sources rd v ∧ Quiet s t ∧ FollowsOn s t

/-- The register write of a load (40_load_store.md R103): delayed on the R2000/R3000, at once on the R4000/R6000. -/
def LoadsRegister (s t : State) (rt : Reg) (v : Word) : Prop :=
  match s.cfg.impl with
  | .r2000R3000 => (∀ x, t.readGpr x = s.arrived x) ∧ t.pending = if rt = 0#5 then none else some (rt, v)
  | .r4000R6000 =>
    (∀ x, t.readGpr x = if x = rt ∧ rt ≠ 0#5 then v else s.arrived x) ∧ t.pending = none

/-- A load that completes: its register, and everything else as it was. -/
def CompletesLoad (s t : State) (rt : Reg) (v : Word) : Prop := LoadsRegister s t rt v ∧ Quiet s t ∧ FollowsOn s t

/-- What a completed store leaves beside memory: registers, EPC, the outcome and the fixed parts as they were. -/
def CompletesStore (s t : State) : Prop :=
  RegistersArrive s t ∧ t.epc = s.epc ∧ t.raised = s.raised ∧ s.sameFixedParts t ∧ FollowsOn s t

/-- The state an exception leaves (60_exceptions.md R217, R219, R220). -/
def TakesException (s t : State) (kind : ExceptionKind) (badVAddr : Option Word) (access : Option Access) : Prop :=
  t.raised = some (ExceptionInfo.mk kind s.inDelay badVAddr access) ∧
  t.epc = (if s.inDelay then s.pc - 4#32 else s.pc) ∧
  t.pc = s.pc ∧ t.npc = s.npc ∧ t.inDelay = s.inDelay ∧
  RegistersArrive s t ∧ SameMemory s t ∧ t.written = s.written ∧ s.sameFixedParts t

/-- The physical byte a program sees at offset `j` of the memory word of a translated address, `VB(j)`
(40_load_store.md R121). -/
def State.visibleByte (s : State) (p : PAddr) (j : Nat) : Nat :=
  4 * p.frame + (BitVec.ofNat 2 j ^^^ both s.reverseEndian).toNat

/-- The smaller address of the two bytes a program sees as the halfword at offset `j` of the memory word
(20_memory.md R41 (b)). -/
def State.visibleHalf (s : State) (p : PAddr) (j : Nat) : Nat :=
  4 * p.frame + (BitVec.ofNat 2 j ^^^ upper s.reverseEndian).toNat

/-- Register byte `L`: bits `8L+7 .. 8L` (40_load_store.md R121). -/
def registerByte (w : Word) (l : Nat) : Byte := w.extractLsb' (8 * l) 8

/-- A completed store of the `n + 1` bytes at the places `place 0` to `place n`: they receive the values, if the stored
register's contents are defined; every other byte reads as before; the stored addresses are recorded (20_memory.md R34,
R50). -/
def StoresBytes (s t : State) (known : Prop) (n : Nat) (place : Nat → Nat) (value : Nat → Byte) : Prop :=
  CompletesStore s t ∧ (known → ∀ i, i ≤ n → t.mem.read (place i) = value i) ∧
  (∀ a, (∀ i, i ≤ n → a ≠ place i) → t.mem.read a = s.mem.read a) ∧
  (∀ a, a ∈ t.written ↔ a ∈ s.written ∨ ∃ i, i ≤ n ∧ a = place i)

/-- `sext_32(imm)` as the source writes it: `(immediate_15)^16 ‖ immediate` (30_encoding.md R63). -/
def signFilled (imm : BitVec 16) : Word := (if imm.getLsbD 15 then 0xFFFF#16 else 0#16) ++ imm

/-- An integer a 32-bit string denotes in two's complement (00_scope.md 5.3). -/
def fitsSigned (n : Int) : Prop := -(2 ^ 31 : Int) ≤ n ∧ n < 2 ^ 31

/-- A reachable state: some number of steps from reset leads to it. -/
inductive Reachable : State → Prop where
  | reset : Reachable State.reset
  | next (s t : State) : Reachable s → Sys2Proof.Machine.step s = .next t → Reachable t

end Sys2Proof.Machine
end

