-- ==== Sys2Proof/Certificates/Slice0/Obligations.lean ====
section
/-! DEFINITION. The statements for the provers. A statement about a register that a load is still delivering says
nothing of its value: it is free (log 7, 8). -/

open Sys2Proof Sys2Proof.Machine

/-! ## Computational instructions (41_computational.md) -/

/-- R134, R135, R137: ADDIU, ADDU and SUBU write the sum or difference modulo 2^32 and never raise; the only difference
from ADDI, ADD and SUB is that those can raise Overflow. -/
def Obligations.UnsignedArithmeticNeverOverflows : Prop :=
  ∀ (s : State) (rd rs rt : Reg) (imm : BitVec 16),
    (∃ t, exec (.addiu rt rs imm) s = .next t ∧
      ComputesRegister s t (s.defined rs) rt (s.readGpr rs + signFilled imm)) ∧
    (∃ t, exec (.addu rd rs rt) s = .next t ∧
      ComputesRegister s t (s.defined rs ∧ s.defined rt) rd (s.readGpr rs + s.readGpr rt)) ∧
    (∃ t, exec (.subu rd rs rt) s = .next t ∧
      ComputesRegister s t (s.defined rs ∧ s.defined rt) rd (s.readGpr rs - s.readGpr rt)) ∧
    ∀ i j, (i, j) ∈ [(Instr.addi rt rs imm, Instr.addiu rt rs imm), (.add rd rs rt, .addu rd rs rt),
        (.sub rd rs rt, .subu rd rs rt)] →
      exec i s = exec j s ∨ ∃ t info, exec i s = .next t ∧ t.raised = some info ∧ info.kind = .overflow

/-- R132, R133, R136: with defined operands ADD, ADDI and SUB write the result if it fits in 32 bits as a signed
integer, and raise Overflow with no write of their own otherwise, whatever the destination is (R131, R211). That the two are one
condition is the spec's inference in R131; what EPC then holds is log 10. -/
def Obligations.SignedArithmeticWritesOrOverflows : Prop :=
  ∀ (s : State) (rd rs rt : Reg) (imm : BitVec 16), s.defined rs →
    (s.defined rt → fitsSigned ((s.readGpr rs).toInt + (s.readGpr rt).toInt) →
      ∃ t, exec (.add rd rs rt) s = .next t ∧
        ComputesRegister s t True rd (BitVec.ofInt 32 ((s.readGpr rs).toInt + (s.readGpr rt).toInt))) ∧
    (s.defined rt → ¬ fitsSigned ((s.readGpr rs).toInt + (s.readGpr rt).toInt) →
      ∃ t, exec (.add rd rs rt) s = .next t ∧ TakesException s t .overflow none none) ∧
    (fitsSigned ((s.readGpr rs).toInt + imm.toInt) →
      ∃ t, exec (.addi rt rs imm) s = .next t ∧
        ComputesRegister s t True rt (BitVec.ofInt 32 ((s.readGpr rs).toInt + imm.toInt))) ∧
    (¬ fitsSigned ((s.readGpr rs).toInt + imm.toInt) →
      ∃ t, exec (.addi rt rs imm) s = .next t ∧ TakesException s t .overflow none none) ∧
    (s.defined rt → fitsSigned ((s.readGpr rs).toInt - (s.readGpr rt).toInt) →
      ∃ t, exec (.sub rd rs rt) s = .next t ∧
        ComputesRegister s t True rd (BitVec.ofInt 32 ((s.readGpr rs).toInt - (s.readGpr rt).toInt))) ∧
    (s.defined rt → ¬ fitsSigned ((s.readGpr rs).toInt - (s.readGpr rt).toInt) →
      ∃ t, exec (.sub rd rs rt) s = .next t ∧ TakesException s t .overflow none none)

/-- R131: the three equivalent statements of overflow, for an addition and for a subtraction: the carries out of bits 30
and 31 differ; the sign rule; the integer result is out of range. -/
def Obligations.OverflowIsCarryDifference : Prop :=
  ∀ a b : Word,
    (addOverflows a b = true ↔ carryOut 30 a b false ≠ carryOut 31 a b false) ∧
    (addOverflows a b = true ↔ ¬ fitsSigned (a.toInt + b.toInt)) ∧
    (addOverflows a b = true ↔ a.getLsbD 31 = b.getLsbD 31 ∧ (a + b).getLsbD 31 ≠ a.getLsbD 31) ∧
    (subOverflows a b = true ↔ carryOut 30 a (~~~b) true ≠ carryOut 31 a (~~~b) true) ∧
    (subOverflows a b = true ↔ ¬ fitsSigned (a.toInt - b.toInt)) ∧
    (subOverflows a b = true ↔ a.getLsbD 31 ≠ b.getLsbD 31 ∧ (a - b).getLsbD 31 ≠ a.getLsbD 31)

/-- R138 to R144: the logical instructions, with the source's own expressions for the immediate forms. -/
def Obligations.LogicalInstructionsCombineBits : Prop :=
  ∀ (s : State) (rd rs rt : Reg) (imm : BitVec 16),
    (∃ t, exec (.and rd rs rt) s = .next t ∧
      ComputesRegister s t (s.defined rs ∧ s.defined rt) rd (s.readGpr rs &&& s.readGpr rt)) ∧
    (∃ t, exec (.or rd rs rt) s = .next t ∧
      ComputesRegister s t (s.defined rs ∧ s.defined rt) rd (s.readGpr rs ||| s.readGpr rt)) ∧
    (∃ t, exec (.xor rd rs rt) s = .next t ∧
      ComputesRegister s t (s.defined rs ∧ s.defined rt) rd (s.readGpr rs ^^^ s.readGpr rt)) ∧
    (∃ t, exec (.nor rd rs rt) s = .next t ∧
      ComputesRegister s t (s.defined rs ∧ s.defined rt) rd (~~~(s.readGpr rs ||| s.readGpr rt))) ∧
    (∃ t, exec (.andi rt rs imm) s = .next t ∧
      ComputesRegister s t (s.defined rs) rt (0#16 ++ (imm &&& (s.readGpr rs).extractLsb' 0 16))) ∧
    (∃ t, exec (.ori rt rs imm) s = .next t ∧
      ComputesRegister s t (s.defined rs) rt
        ((s.readGpr rs).extractLsb' 16 16 ++ (imm ||| (s.readGpr rs).extractLsb' 0 16))) ∧
    (∃ t, exec (.xori rt rs imm) s = .next t ∧
      ComputesRegister s t (s.defined rs) rt (s.readGpr rs ^^^ (0#16 ++ imm)))

/-- R145: LUI writes the immediate and sixteen zeros and reads no register; LUI followed by ORI builds a 32-bit
constant (the pair is the spec's own inference). -/
def Obligations.LuiAndOriBuildAConstant : Prop :=
  ∀ (s : State) (rt : Reg) (c : Word),
    ∃ t, exec (.lui rt (c.extractLsb' 16 16)) s = .next t ∧
      ComputesRegister s t True rt (c.extractLsb' 16 16 ++ 0#16) ∧
      (s.defined rt → rt ≠ 0#5 →
        ∃ u, exec (.ori rt rt (c.extractLsb' 0 16)) t = .next u ∧ u.readGpr rt = c)

/-- R146 to R149: the comparisons write one or zero. -/
def Obligations.ComparisonsWriteOneOrZero : Prop :=
  ∀ (s : State) (rd rs rt : Reg) (imm : BitVec 16),
    (∃ t, exec (.slt rd rs rt) s = .next t ∧
      ComputesRegister s t (s.defined rs ∧ s.defined rt) rd
        (if (s.readGpr rs).toInt < (s.readGpr rt).toInt then 1#32 else 0#32)) ∧
    (∃ t, exec (.slti rt rs imm) s = .next t ∧
      ComputesRegister s t (s.defined rs) rt
        (if (s.readGpr rs).toInt < imm.toInt then 1#32 else 0#32)) ∧
    (∃ t, exec (.sltiu rt rs imm) s = .next t ∧
      ComputesRegister s t (s.defined rs) rt
        (if (s.readGpr rs).toNat < (signFilled imm).toNat then 1#32 else 0#32)) ∧
    (∃ t, exec (.sltu rd rs rt) s = .next t ∧
      ComputesRegister s t (s.defined rs ∧ s.defined rt) rd
        (if (s.readGpr rs).toNat < (s.readGpr rt).toNat then 1#32 else 0#32))

/-- R151, R153, R155: the constant shifts, bit by bit. -/
def Obligations.ConstantShiftsMoveBits : Prop :=
  ∀ (s : State) (rd rt : Reg) (sa : BitVec 5),
    (∃ t v, exec (.sll rd rt sa) s = .next t ∧ ComputesRegister s t (s.defined rt) rd v ∧
      ∀ j < 32, v.getLsbD j = if j < sa.toNat then false else (s.readGpr rt).getLsbD (j - sa.toNat)) ∧
    (∃ t v, exec (.srl rd rt sa) s = .next t ∧ ComputesRegister s t (s.defined rt) rd v ∧
      ∀ j < 32, v.getLsbD j = if 32 ≤ j + sa.toNat then false else (s.readGpr rt).getLsbD (j + sa.toNat)) ∧
    (∃ t v, exec (.sra rd rt sa) s = .next t ∧ ComputesRegister s t (s.defined rt) rd v ∧
      ∀ j < 32, v.getLsbD j =
        if 32 ≤ j + sa.toNat then (s.readGpr rt).getLsbD 31 else (s.readGpr rt).getLsbD (j + sa.toNat))

/-- R152, R154, R156: the variable shifts, by the low five bits of the count register (R150). -/
def Obligations.VariableShiftsMoveBits : Prop :=
  ∀ (s : State) (rd rt rs : Reg) (n : Nat), n = (s.readGpr rs).toNat % 32 →
    (∃ t v, exec (.sllv rd rt rs) s = .next t ∧ ComputesRegister s t (s.defined rs ∧ s.defined rt) rd v ∧
      ∀ j < 32, v.getLsbD j = if j < n then false else (s.readGpr rt).getLsbD (j - n)) ∧
    (∃ t v, exec (.srlv rd rt rs) s = .next t ∧ ComputesRegister s t (s.defined rs ∧ s.defined rt) rd v ∧
      ∀ j < 32, v.getLsbD j = if 32 ≤ j + n then false else (s.readGpr rt).getLsbD (j + n)) ∧
    (∃ t v, exec (.srav rd rt rs) s = .next t ∧ ComputesRegister s t (s.defined rs ∧ s.defined rt) rd v ∧
      ∀ j < 32, v.getLsbD j = if 32 ≤ j + n then (s.readGpr rt).getLsbD 31 else (s.readGpr rt).getLsbD (j + n))

/-- R158: the carry out of an unsigned addition is recovered with SLTU. -/
def Obligations.CarryRecoveredBySltu : Prop :=
  ∀ (s : State) (rd rs rt rc : Reg), s.pending = none → rd ≠ rs → rd ≠ 0#5 → rc ≠ 0#5 →
    ∃ t u, exec (.addu rd rs rt) s = .next t ∧ exec (.sltu rc rd rs) t = .next u ∧
      u.readGpr rc = if 2 ^ 32 ≤ (s.readGpr rs).toNat + (s.readGpr rt).toNat then 1#32 else 0#32

/-! ## Registers and the load delay (10_state.md, 70_reset_and_hazards.md) -/

/-- R11: register 0 reads zero in every state, and no write to it has an effect. -/
def Obligations.RegisterZeroIsConstant : Prop :=
  ∀ s : State, s.readGpr 0#5 = 0#32 ∧ ∀ v, s.setReg 0#5 v = s ∧ s.writeResult 0#5 v = s.commitPending

/-- R255, R260 and log 7, 8: what a register yields in its load delay depends neither on its old nor on its new content;
what two writes at one time step leave depends on neither value written. A register that no load is delivering reads what
it holds. -/
def Obligations.UndefinedContentsAreFree : Prop :=
  ∀ (s : State) (place : Place) (r : Reg) (old old' v v' w w' : Word),
    State.readOperand { s.setReg r old with pending := some (r, v) } place r =
      State.readOperand { s.setReg r old' with pending := some (r, v') } place r ∧
    (State.writeResult { s.setReg r old with pending := some (r, v) } r w).readGpr r =
      (State.writeResult { s.setReg r old' with pending := some (r, v') } r w').readGpr r ∧
    (s.defined r → s.readOperand place r = s.readGpr r)

/-! ## Loads (40_load_store.md) -/

/-- R100: the effective address is the base register plus the signed offset, modulo 2^32; from register 0 it reaches the
lowest and the highest 32 KB. -/
def Obligations.EffectiveAddressIsBasePlusOffset : Prop :=
  ∀ (s : State) (offset : BitVec 16) (base : Reg),
    (s.defined base → s.dataAddress offset base = BitVec.ofInt 32 ((s.readGpr base).toNat + offset.toInt)) ∧
    ((s.dataAddress offset 0#5).toNat ≤ 0x7FFF ∨ 0xFFFF8000 ≤ (s.dataAddress offset 0#5).toNat)

/-- R105, R106: LB and LBU load the byte the program sees at the address, extended. -/
def Obligations.LoadByteReadsTheByte : Prop :=
  ∀ (s : State) (rt base : Reg) (offset : BitVec 16) (v : Word) (p : PAddr) (u : Bool) (a : Nat),
    v = s.dataAddress offset base → addressTranslation s.cfg v .load = .ok (p, u) → a = s.visibleByte p (v.toNat % 4) →
    busErrorAt s.cfg a = false →
    (∃ t, exec (.lb rt offset base) s = .next t ∧ CompletesLoad s t rt ((s.mem.read a).signExtend 32)) ∧
    (∃ t, exec (.lbu rt offset base) s = .next t ∧ CompletesLoad s t rt ((s.mem.read a).zeroExtend 32))

/-- R107, R108: LH and LHU load the two bytes of an aligned halfword, extended. -/
def Obligations.LoadHalfwordReadsTwoBytes : Prop :=
  ∀ (s : State) (rt base : Reg) (offset : BitVec 16) (v : Word) (p : PAddr) (u : Bool) (a : Nat) (h : BitVec 16),
    v = s.dataAddress offset base → v.toNat % 2 = 0 → addressTranslation s.cfg v .load = .ok (p, u) →
    a = s.visibleHalf p (v.toNat % 4) → busErrorAt s.cfg a = false →
    h = (if s.cfg.bigEndianMem then s.mem.read a ++ s.mem.read (a + 1) else s.mem.read (a + 1) ++ s.mem.read a) →
    (∃ t, exec (.lh rt offset base) s = .next t ∧ CompletesLoad s t rt (h.signExtend 32)) ∧
    (∃ t, exec (.lhu rt offset base) s = .next t ∧ CompletesLoad s t rt (h.zeroExtend 32))

/-- R109: LW loads the four bytes of an aligned word, in the order of `BigEndianMem`. -/
def Obligations.LoadWordReadsFourBytes : Prop :=
  ∀ (s : State) (rt base : Reg) (offset : BitVec 16) (v : Word) (p : PAddr) (u : Bool) (a : Nat),
    v = s.dataAddress offset base → v.toNat % 4 = 0 → addressTranslation s.cfg v .load = .ok (p, u) → a = p.toNat →
    busErrorAt s.cfg a = false →
    ∃ t, exec (.lw rt offset base) s = .next t ∧
      CompletesLoad s t rt
        (if s.cfg.bigEndianMem
          then s.mem.read a ++ s.mem.read (a + 1) ++ s.mem.read (a + 2) ++ s.mem.read (a + 3)
          else s.mem.read (a + 3) ++ s.mem.read (a + 2) ++ s.mem.read (a + 1) ++ s.mem.read a)

/-- R110, R112, R121: LWL loads the left part of the register and merges it with the register's content, a pending load's
value included; it raises no alignment exception. -/
def Obligations.LoadWordLeftMergesHighBytes : Prop :=
  ∀ (s : State) (rt base : Reg) (offset : BitVec 16) (v : Word) (p : PAddr) (u : Bool) (k : Nat) (e : Bool),
    v = s.dataAddress offset base → addressTranslation s.cfg v .load = .ok (p, u) → k = v.toNat % 4 → e = s.bigEndianCPU →
    busErrorAt s.cfg (if s.cfg.bigEndianMem then s.visibleByte p k else 4 * p.frame) = false →
    ∃ t w, exec (.lwl rt offset base) s = .next t ∧ CompletesLoad s t rt w ∧
      ∀ i < 4, registerByte w (3 - i) =
        if i ≤ (if e then 3 - k else k) then s.mem.read (s.visibleByte p (if e then k + i else k - i))
        else registerByte (s.arrived rt) (3 - i)

/-- R111, R112, R121: LWR loads the right part of the register and merges it likewise. -/
def Obligations.LoadWordRightMergesLowBytes : Prop :=
  ∀ (s : State) (rt base : Reg) (offset : BitVec 16) (v : Word) (p : PAddr) (u : Bool) (k : Nat) (e : Bool),
    v = s.dataAddress offset base → addressTranslation s.cfg v .load = .ok (p, u) → k = v.toNat % 4 → e = s.bigEndianCPU →
    busErrorAt s.cfg (if s.cfg.bigEndianMem then 4 * p.frame else s.visibleByte p k) = false →
    ∃ t w, exec (.lwr rt offset base) s = .next t ∧ CompletesLoad s t rt w ∧
      ∀ i < 4, registerByte w i =
        if i ≤ (if e then k else 3 - k) then s.mem.read (s.visibleByte p (if e then k - i else k + i))
        else registerByte (s.arrived rt) i

/-- R123: the pair LWL, LWR loads the four bytes at any address, in either order and with nothing between them. -/
def Obligations.UnalignedLoadPair : Prop :=
  ∀ (s : State) (rt base : Reg) (byteAt : Nat → Byte), rt ≠ 0#5 → base ≠ rt → s.defined base →
    s.reverseEndian = false → s.cfg.mappings = [] → s.cfg.busErrors = [] →
    (∀ i, byteAt i = s.mem.read (s.readGpr base + BitVec.ofNat 32 i).toNat) →
    (s.cfg.bigEndianMem = true →
      (∃ t u, exec (.lwl rt 0 base) s = .next t ∧ exec (.lwr rt 3 base) t = .next u ∧
        u.arrived rt = byteAt 0 ++ byteAt 1 ++ byteAt 2 ++ byteAt 3) ∧
      (∃ t u, exec (.lwr rt 3 base) s = .next t ∧ exec (.lwl rt 0 base) t = .next u ∧
        u.arrived rt = byteAt 0 ++ byteAt 1 ++ byteAt 2 ++ byteAt 3)) ∧
    (s.cfg.bigEndianMem = false →
      (∃ t u, exec (.lwl rt 3 base) s = .next t ∧ exec (.lwr rt 0 base) t = .next u ∧
        u.arrived rt = byteAt 3 ++ byteAt 2 ++ byteAt 1 ++ byteAt 0) ∧
      (∃ t u, exec (.lwr rt 0 base) s = .next t ∧ exec (.lwl rt 3 base) t = .next u ∧
        u.arrived rt = byteAt 3 ++ byteAt 2 ++ byteAt 1 ++ byteAt 0))

/-! ## Stores (40_load_store.md) -/

/-- R113: SB stores the least significant byte of the register; the other bytes of memory are unchanged. -/
def Obligations.StoreByteWritesOneByte : Prop :=
  ∀ (s : State) (rt base : Reg) (offset : BitVec 16) (v : Word) (p : PAddr) (u : Bool) (a : Nat),
    v = s.dataAddress offset base → addressTranslation s.cfg v .store = .ok (p, u) → a = s.visibleByte p (v.toNat % 4) →
    busErrorAt s.cfg a = false →
    ∃ t, exec (.sb rt offset base) s = .next t ∧
      StoresBytes s t (s.defined rt) 0 (fun _ => a) (fun _ => registerByte (s.readGpr rt) 0)

/-- R114: SH stores the least significant halfword at an even address, in the order of `BigEndianMem`. -/
def Obligations.StoreHalfwordWritesTwoBytes : Prop :=
  ∀ (s : State) (rt base : Reg) (offset : BitVec 16) (v : Word) (p : PAddr) (u : Bool) (a : Nat),
    v = s.dataAddress offset base → v.toNat % 2 = 0 → addressTranslation s.cfg v .store = .ok (p, u) →
    a = s.visibleHalf p (v.toNat % 4) → busErrorAt s.cfg a = false →
    ∃ t, exec (.sh rt offset base) s = .next t ∧
      StoresBytes s t (s.defined rt) 1 (fun i => a + i)
        (fun i => registerByte (s.readGpr rt) (if s.cfg.bigEndianMem then 1 - i else i))

/-- R115: SW stores the register at an address that is a multiple of 4, in the order of `BigEndianMem`. -/
def Obligations.StoreWordWritesFourBytes : Prop :=
  ∀ (s : State) (rt base : Reg) (offset : BitVec 16) (v : Word) (p : PAddr) (u : Bool) (a : Nat),
    v = s.dataAddress offset base → v.toNat % 4 = 0 → addressTranslation s.cfg v .store = .ok (p, u) → a = p.toNat →
    busErrorAt s.cfg a = false →
    ∃ t, exec (.sw rt offset base) s = .next t ∧
      StoresBytes s t (s.defined rt) 3 (fun i => a + i)
        (fun i => registerByte (s.readGpr rt) (if s.cfg.bigEndianMem then 3 - i else i))

/-- R116, R121: SWL stores the left part of the register from the addressed byte on, inside one memory word. -/
def Obligations.StoreWordLeftWritesHighBytes : Prop :=
  ∀ (s : State) (rt base : Reg) (offset : BitVec 16) (v : Word) (p : PAddr) (u : Bool) (k : Nat) (e : Bool),
    v = s.dataAddress offset base → addressTranslation s.cfg v .store = .ok (p, u) → k = v.toNat % 4 → e = s.bigEndianCPU →
    busErrorAt s.cfg (if s.cfg.bigEndianMem then s.visibleByte p k else 4 * p.frame) = false →
    ∃ t, exec (.swl rt offset base) s = .next t ∧
      StoresBytes s t (s.defined rt) (if e then 3 - k else k)
        (fun i => s.visibleByte p (if e then k + i else k - i)) (fun i => registerByte (s.readGpr rt) (3 - i))

/-- R122, R121: SWR stores the right part of the register likewise. -/
def Obligations.StoreWordRightWritesLowBytes : Prop :=
  ∀ (s : State) (rt base : Reg) (offset : BitVec 16) (v : Word) (p : PAddr) (u : Bool) (k : Nat) (e : Bool),
    v = s.dataAddress offset base → addressTranslation s.cfg v .store = .ok (p, u) → k = v.toNat % 4 → e = s.bigEndianCPU →
    busErrorAt s.cfg (if s.cfg.bigEndianMem then 4 * p.frame else s.visibleByte p k) = false →
    ∃ t, exec (.swr rt offset base) s = .next t ∧
      StoresBytes s t (s.defined rt) (if e then k else 3 - k)
        (fun i => s.visibleByte p (if e then k - i else k + i)) (fun i => registerByte (s.readGpr rt) i)

/-- R123: the pair SWL, SWR stores a register into the four bytes at any address, in either order. -/
def Obligations.UnalignedStorePair : Prop :=
  ∀ (s : State) (rt base : Reg) (place : Nat → Nat) (w : Word), s.defined base → s.defined rt → w = s.readGpr rt →
    s.reverseEndian = false → s.cfg.mappings = [] → s.cfg.busErrors = [] →
    (∀ i, place i = (s.readGpr base + BitVec.ofNat 32 i).toNat) →
    (s.cfg.bigEndianMem = true → ∀ j j' : Instr,
      (j = .swl rt 0 base ∧ j' = .swr rt 3 base) ∨ (j = .swr rt 3 base ∧ j' = .swl rt 0 base) →
      ∃ t u, exec j s = .next t ∧ exec j' t = .next u ∧
        (∀ i, i ≤ 3 → u.mem.read (place i) = registerByte w (3 - i)) ∧
        (∀ a, (∀ i, i ≤ 3 → a ≠ place i) → u.mem.read a = s.mem.read a)) ∧
    (s.cfg.bigEndianMem = false → ∀ j j' : Instr,
      (j = .swl rt 3 base ∧ j' = .swr rt 0 base) ∨ (j = .swr rt 0 base ∧ j' = .swl rt 3 base) →
      ∃ t u, exec j s = .next t ∧ exec j' t = .next u ∧
        (∀ i, i ≤ 3 → u.mem.read (place i) = registerByte w i) ∧
        (∀ a, (∀ i, i ≤ 3 → a ≠ place i) → u.mem.read a = s.mem.read a))

/-- R42, R47: after a word is stored, LW, LHU and LBU of the same place see it in the byte order of `BigEndianCPU`,
whatever `BigEndianMem` and `ReverseEndian` are. -/
def Obligations.NarrowLoadsSeeTheStoredWord : Prop :=
  ∀ (s : State) (rt base rl : Reg) (w a : Word), s.defined base → s.defined rt → w = s.readGpr rt →
    a = s.readGpr base → a.toNat % 4 = 0 → s.cfg.mappings = [] → s.cfg.busErrors = [] → rl ≠ 0#5 →
    ∃ t, exec (.sw rt 0 base) s = .next t ∧
      (∃ x, exec (.lw rl 0 base) t = .next x ∧ x.arrived rl = w) ∧
      (∀ k < 4, ∃ x, exec (.lbu rl (BitVec.ofNat 16 k) base) t = .next x ∧
        x.arrived rl = (registerByte w (if s.bigEndianCPU then 3 - k else k)).zeroExtend 32) ∧
      (∃ x, exec (.lhu rl 0 base) t = .next x ∧
        x.arrived rl = (w.extractLsb' (if s.bigEndianCPU then 16 else 0) 16).zeroExtend 32) ∧
      (∃ x, exec (.lhu rl 2 base) t = .next x ∧
        x.arrived rl = (w.extractLsb' (if s.bigEndianCPU then 0 else 16) 16).zeroExtend 32)

/-! ## Memory access: byte order, translation, exceptions (20_memory.md, 60_exceptions.md) -/

/-- R39, R40: the byte-order signals. -/
def Obligations.ByteOrderSignals : Prop :=
  ∀ s : State,
    (s.cfg.impl = .r4000R6000 → (s.reverseEndian = true ↔ s.sr.getLsbD 28 = true ∧ s.mode = .user)) ∧
    (s.cfg.impl = .r2000R3000 → s.reverseEndian = false) ∧
    s.bigEndianCPU = (s.cfg.bigEndianMem ^^ s.reverseEndian)

/-- R32: a translation keeps the two low bits of the address, raises TLB modification for stores only, and an exception
it raises carries the address and the access. -/
def Obligations.TranslationKeepsLowBits : Prop :=
  ∀ (c : Config) (v : Word) (access : Access),
    (∀ p u, addressTranslation c v access = .ok (p, u) → p.toNat % 4 = v.toNat % 4) ∧
    (∀ r, addressTranslation c v access = .error r →
      r.badVAddr = some v ∧ r.access = some access ∧ (r.kind = .tlbModification → access = .store) ∧
      r.kind ∈ [ExceptionKind.tlbRefill, .tlbInvalid, .tlbModification, .addressError])

/-- R43, R213: a misaligned halfword or word access raises Address Error with its address, before translation. -/
def Obligations.MisalignedAccessRaisesAddressError : Prop :=
  ∀ (s : State) (rt base : Reg) (offset : BitVec 16) (v : Word), v = s.dataAddress offset base →
    (v.toNat % 2 ≠ 0 →
      (∃ t, exec (.lh rt offset base) s = .next t ∧ TakesException s t .addressError (some v) (some .load)) ∧
      (∃ t, exec (.lhu rt offset base) s = .next t ∧ TakesException s t .addressError (some v) (some .load)) ∧
      (∃ t, exec (.sh rt offset base) s = .next t ∧ TakesException s t .addressError (some v) (some .store))) ∧
    (v.toNat % 4 ≠ 0 →
      (∃ t, exec (.lw rt offset base) s = .next t ∧ TakesException s t .addressError (some v) (some .load)) ∧
      (∃ t, exec (.sw rt offset base) s = .next t ∧ TakesException s t .addressError (some v) (some .store)))

/-- R101, R102, R214: an exception of AddressTranslation is taken by every load and store whose address is aligned. -/
def Obligations.TranslationFailureIsTaken : Prop :=
  ∀ (s : State) (rt base : Reg) (offset : BitVec 16) (v : Word) (r : Raise), v = s.dataAddress offset base →
    (addressTranslation s.cfg v .load = .error r → ∀ i n,
      (i, n) ∈ [(Instr.lb rt offset base, 1), (.lbu rt offset base, 1), (.lh rt offset base, 2),
        (.lhu rt offset base, 2), (.lw rt offset base, 4), (.lwl rt offset base, 1), (.lwr rt offset base, 1)] →
      v.toNat % n = 0 → ∃ t, exec i s = .next t ∧ TakesException s t r.kind (some v) (some .load)) ∧
    (addressTranslation s.cfg v .store = .error r → ∀ i n,
      (i, n) ∈ [(Instr.sb rt offset base, 1), (.sh rt offset base, 2), (.sw rt offset base, 4),
        (.swl rt offset base, 1), (.swr rt offset base, 1)] →
      v.toNat % n = 0 → ∃ t, exec i s = .next t ∧ TakesException s t r.kind (some v) (some .store))

/-- R33, R34, R53, R215: a physical address that answers with a bus error raises Bus Error, with no virtual address; a
store then stores nothing. -/
def Obligations.BusErrorIsTaken : Prop :=
  ∀ (s : State) (rt base : Reg) (offset : BitVec 16) (v : Word) (p : PAddr) (u : Bool) (k left right : Nat),
    v = s.dataAddress offset base → k = v.toNat % 4 →
    left = (if s.cfg.bigEndianMem then s.visibleByte p k else 4 * p.frame) →
    right = (if s.cfg.bigEndianMem then 4 * p.frame else s.visibleByte p k) →
    (addressTranslation s.cfg v .load = .ok (p, u) → ∀ i n a,
      (i, n, a) ∈ [(Instr.lb rt offset base, 1, s.visibleByte p k), (.lbu rt offset base, 1, s.visibleByte p k),
        (.lh rt offset base, 2, s.visibleHalf p k), (.lhu rt offset base, 2, s.visibleHalf p k),
        (.lw rt offset base, 4, p.toNat), (.lwl rt offset base, 1, left), (.lwr rt offset base, 1, right)] →
      v.toNat % n = 0 → busErrorAt s.cfg a = true →
      ∃ t, exec i s = .next t ∧ TakesException s t .busError none (some .load)) ∧
    (addressTranslation s.cfg v .store = .ok (p, u) → ∀ i n a,
      (i, n, a) ∈ [(Instr.sb rt offset base, 1, s.visibleByte p k), (.sh rt offset base, 2, s.visibleHalf p k),
        (.sw rt offset base, 4, p.toNat), (.swl rt offset base, 1, left), (.swr rt offset base, 1, right)] →
      v.toNat % n = 0 → busErrorAt s.cfg a = true →
      ∃ t, exec i s = .next t ∧ TakesException s t .busError none (some .store))

/-! ## Jumps and branches (42_jump_branch.md) -/

/-- R172, R174, R175: BEQ and BNE, outside a delay slot, go on with the delay slot and then with the target or the
following word. That with an undefined source the run goes on, and one of the two happens, is the model's choice (log 7:
70_reset_and_hazards.md R255 and D10 end the run there). -/
def Obligations.BranchesGoToTargetAfterTheSlot : Prop :=
  ∀ (s : State) (rs rt : Reg) (offset : BitVec 16) (target : Word), s.inDelay = false →
    target = BitVec.ofInt 32 (s.pc.toNat + 4 + 4 * offset.toInt) →
    (∃ t, exec (.beq rs rt offset) s = .next t ∧ RegistersArrive s t ∧ Quiet s t ∧
      (JumpsTo s t target ∨ JumpsTo s t (s.npc + 4#32)) ∧
      (s.defined rs → s.defined rt →
        JumpsTo s t (if s.readGpr rs = s.readGpr rt then target else s.npc + 4#32))) ∧
    (∃ t, exec (.bne rs rt offset) s = .next t ∧ RegistersArrive s t ∧ Quiet s t ∧
      (JumpsTo s t target ∨ JumpsTo s t (s.npc + 4#32)) ∧
      (s.defined rs → s.defined rt →
        JumpsTo s t (if s.readGpr rs = s.readGpr rt then s.npc + 4#32 else target)))

/-- R176, R182: J and JR, outside a delay slot; a word with the JR function code and a non-zero `rd` field is no JR. -/
def Obligations.JumpsGoToTargetAfterTheSlot : Prop :=
  ∀ (s : State) (rs : Reg) (target : BitVec 26), s.inDelay = false →
    (∃ t, exec (.j target) s = .next t ∧ RegistersArrive s t ∧ Quiet s t ∧
      JumpsTo s t (BitVec.ofNat 32 ((s.pc + 4#32).toNat / 2 ^ 28 * 2 ^ 28 + 4 * target.toNat))) ∧
    (∃ t n, exec (.jr rs) s = .next t ∧ RegistersArrive s t ∧ Quiet s t ∧ JumpsTo s t n ∧
      (s.defined rs → n = s.readGpr rs)) ∧
    ∀ w : Word, opField w = 0b000000#6 → functionField w = 0b001000#6 → rdField w ≠ 0#5 →
      decode w = .rejected (.nonzeroField "JR")

/-- R177, R179: JAL and JALR, outside a delay slot, also link with the address after the delay slot (R173); JALR with
equal registers is undefined. -/
def Obligations.LinkingJumpsLinkAndJump : Prop :=
  ∀ (s : State) (rd rs : Reg) (target : BitVec 26), s.inDelay = false →
    (∃ t, exec (.jal target) s = .next t ∧ WritesRegister s t True 31#5 (s.pc + 8#32) ∧ Quiet s t ∧
      JumpsTo s t (BitVec.ofNat 32 ((s.pc + 4#32).toNat / 2 ^ 28 * 2 ^ 28 + 4 * target.toNat))) ∧
    (rs ≠ rd → ∃ t n, exec (.jalr rd rs) s = .next t ∧ WritesRegister s t True rd (s.pc + 8#32) ∧ Quiet s t ∧
      JumpsTo s t n ∧ (s.defined rs → n = s.readGpr rs)) ∧
    (rs = rd → exec (.jalr rd rs) s = .fault .jalrSameRegister)

/-- R178, R254: a jump or branch in a delay slot stops as undefined; no other instruction and no other place does. -/
def Obligations.JumpInDelaySlotIsUndefined : Prop :=
  ∀ (i : Instr) (s : State), exec i s = .fault .jumpInDelaySlot ↔ i.family = .jump ∧ s.inDelay = true

/-- R181, R259: JALR with equal registers, outside a delay slot, stops as undefined for every register number; nothing
else does. -/
def Obligations.JalrWithEqualRegistersIsUndefined : Prop :=
  ∀ (i : Instr) (s : State),
    exec i s = .fault .jalrSameRegister ↔ (∃ r, i = .jalr r r) ∧ s.inDelay = false

/-- R17, R19, R170: when no exception is taken, `in_delay` holds after exactly the jumps and branches, and every other
instruction goes on with the following word. -/
def Obligations.OnlyJumpsOpenADelaySlot : Prop :=
  ∀ (i : Instr) (s t : State), s.raised = none → exec i s = .next t → t.raised = none →
    t.pc = s.npc ∧ (t.inDelay = true ↔ i.family = .jump) ∧ (i.family ≠ .jump → t.npc = s.npc + 4#32)

/-- R181, R183, R218: a jump or branch is restartable. If the instruction in its delay slot raises, resuming at EPC
re-executes the jump, which leaves the same registers and goes to the same place. -/
def Obligations.JumpsAreRestartable : Prop :=
  ∀ (i : Instr) (s t : State) (r : Raise), i.family = .jump → s.pending = none → s.npc = s.pc + 4#32 →
    exec i s = .next t →
    (t.withException r).restart.pc = s.pc ∧
    ∃ u, exec i (t.withException r).restart = .next u ∧ (∀ x, u.readGpr x = t.readGpr x) ∧
      SameMemory t u ∧ u.pc = t.pc ∧ u.npc = t.npc ∧ u.inDelay = t.inDelay ∧ u.pending = t.pending

/-! ## Exceptions (60_exceptions.md) -/

/-- R217, R219, R220 and log 9, 10: taking an exception commits a pending load, saves the restart address in EPC and
records the outcome; nothing else changes. -/
def Obligations.TakingAnExceptionSavesTheRestartAddress : Prop :=
  ∀ (s : State) (r : Raise), ∃ t, s.takeException r = .next t ∧ TakesException s t r.kind r.badVAddr r.access

/-- R219: an instruction that raises makes none of its own writes, whichever instruction and exception it is; the same
for an exception at the fetch. -/
def Obligations.RaisingStepMakesNoOwnWrites : Prop :=
  ∀ (s t : State), step s = .next t → t.raised ≠ none →
    ∃ kind badVAddr access, TakesException s t kind badVAddr access

/-- R210, R211, R212, R216: which instructions can raise which exception. -/
def Obligations.ExceptionsComeFromTheirInstructions : Prop :=
  ∀ (i : Instr) (s t : State) (info : ExceptionInfo), s.raised = none → exec i s = .next t → t.raised = some info →
    (info.kind = .overflow → ∃ x y, (∃ z, i = .add x y z ∨ i = .sub x y z) ∨ ∃ z, i = .addi x y z) ∧
    (info.kind = .breakpoint ↔ ∃ code, i = .brk code) ∧
    (info.kind ∈ [ExceptionKind.addressError, .tlbRefill, .tlbInvalid, .busError] →
      i.family = .load ∨ i.family = .store) ∧
    (info.kind = .tlbModification → i.family = .store) ∧
    (info.kind = .reservedInstruction ↔ i.mark = .alpha ∧ s.cfg.impl = .r2000R3000)

/-- R200, R201: BREAK raises Breakpoint with every `code`, in every mode, on both implementations and in a delay slot;
log 9 says what of the control transfer to the handler is modelled. -/
def Obligations.BreakRaisesBreakpoint : Prop :=
  ∀ (s : State) (code : BitVec 20),
    ∃ t, exec (.brk code) s = .next t ∧ TakesException s t .breakpoint none none

/-- R220, R264 and log 9: once an exception has been taken, the run has ended with that outcome: the next step answers it
and nothing is fetched. -/
def Obligations.TheRunEndsAtTheException : Prop :=
  ∀ (s t : State), step s = .next t → ∀ info, t.raised = some info →
    step t = .fault (.exceptionOutcome info t.epc) ∧ info.bd = s.inDelay ∧
    t.epc = if s.inDelay then s.pc - 4#32 else s.pc

/-- R43, R180, R213 (c), R214, R215, R222: a program counter with a non-zero low bit raises Address Error at the fetch,
before translation; then the exceptions of AddressTranslation and Bus Error are taken at the fetch too. -/
def Obligations.FetchExceptionsAreTaken : Prop :=
  ∀ s : State, s.raised = none →
    (s.pc.toNat % 4 ≠ 0 →
      ∃ t, step s = .next t ∧ TakesException s t .addressError (some s.pc) (some .fetch)) ∧
    (s.pc.toNat % 4 = 0 → ∀ r, addressTranslation s.cfg s.pc .fetch = .error r →
      ∃ t, step s = .next t ∧ TakesException s t r.kind (some s.pc) (some .fetch)) ∧
    (s.pc.toNat % 4 = 0 → ∀ p u, addressTranslation s.cfg s.pc .fetch = .ok (p, u) → busErrorAt s.cfg p.toNat = true →
      ∃ t, step s = .next t ∧ TakesException s t .busError none (some .fetch))

/-! ## Decoding (30_encoding.md) -/

/-- R61: where each field stands in an R-type, an I-type and a J-type word. -/
def Obligations.FieldsStandWhereTheFormatsSay : Prop :=
  (∀ (op : BitVec 6) (rs rt rd : Reg) (sa : BitVec 5) (function : BitVec 6),
    (encodeR op rs rt rd sa function).toNat = op.toNat * 2 ^ 26 + rs.toNat * 2 ^ 21 + rt.toNat * 2 ^ 16 +
      rd.toNat * 2 ^ 11 + sa.toNat * 2 ^ 6 + function.toNat) ∧
  (∀ (op : BitVec 6) (rs rt : Reg) (immediate : BitVec 16),
    (encodeI op rs rt immediate).toNat = op.toNat * 2 ^ 26 + rs.toNat * 2 ^ 21 + rt.toNat * 2 ^ 16 +
      immediate.toNat) ∧
  (∀ (op : BitVec 6) (target : BitVec 26), (encodeJ op target).toNat = op.toNat * 2 ^ 26 + target.toNat) ∧
  (∀ (code : BitVec 20) (function : BitVec 6),
    (encodeCode code function).toNat = code.toNat * 2 ^ 6 + function.toNat)

/-- R67, R68: decoding the word of any instruction gives the instruction back, with every operand at every value. -/
def Obligations.DecodeOfEncode : Prop := ∀ i : Instr, decode (encode i) = .instr i

/-- R67, R71, R191: a word that decodes to an instruction is that instruction's only word, and the bits of a COPz word are
those of the cell it selects: no bit is dropped. -/
def Obligations.EncodeOfDecode : Prop :=
  (∀ (w : Word) (i : Instr), decode w = .instr i → encode i = w) ∧ ∀ rest : BitVec 26, copRest (copForm rest) = rest

/-- R70, R71, R216: the cells marked `*` are these, and no other word is rejected as reserved; the step that fetches
such a word takes Reserved Instruction, whatever the implementation. -/
def Obligations.ReservedCellsRaise : Prop :=
  (∀ (s : State) (w : Word), s.fetch = .word w → decode w = .rejected .reserved →
    ∃ t, step s = .next t ∧ TakesException s t .reservedInstruction none none) ∧
  ∀ w : Word, decode w = .rejected .reserved ↔
    (opField w = 0b000000#6 ∧ functionField w ∈
      [0b000001#6, 0b000101#6, 0b001010#6, 0b001011#6, 0b001110#6, 0b010100#6, 0b010101#6, 0b010110#6, 0b011100#6,
       0b011101#6, 0b011110#6, 0b101000#6, 0b101001#6, 0b101100#6, 0b101101#6, 0b101110#6, 0b110101#6, 0b111000#6,
       0b111001#6, 0b111010#6, 0b111011#6, 0b111100#6, 0b111101#6, 0b111110#6]) ∨
    (opField w = 0b000001#6 ∧ rtField w ∈
      [0b00100#5, 0b00101#5, 0b00110#5, 0b01101#5, 0b10100#5, 0b10101#5, 0b10110#5, 0b11000#5, 0b11001#5, 0b11010#5,
       0b11011#5, 0b11100#5, 0b11101#5, 0b11110#5])

/-- R71 (3), R76, R64: the `X` cells and the cells of the lost column 7 are refused, each under its name, and so is every
other word that is no row and not reserved. -/
def Obligations.UndescribedWordsAreRefused : Prop :=
  (∀ w : Word, opField w ∈ [0b011000#6, 0b011001#6, 0b011010#6, 0b011011#6, 0b011100#6, 0b011101#6, 0b011110#6,
      0b101100#6, 0b101101#6, 0b110100#6, 0b111100#6] → decode w = .rejected .unkeyed) ∧
  (∀ w : Word, opField w ∈ [0b000111#6, 0b010111#6, 0b011111#6, 0b100111#6, 0b101111#6, 0b110111#6, 0b111111#6] →
    decode w = .rejected .lostColumn) ∧
  (∀ w : Word, opField w = 0b000000#6 → functionField w ∈ [0b001111#6, 0b010111#6, 0b011111#6, 0b101111#6,
      0b110111#6, 0b111111#6] → decode w = .rejected .lostColumn) ∧
  (∀ (s : State) (w : Word) (why : Rejected), s.fetch = .word w → decode w = .rejected why → why ≠ .reserved →
    ∃ r, step s = .refused r)

/-- R70, R216: the rows marked alpha raise Reserved Instruction on the R2000/R3000 and are refused by name on the
R4000/R6000. -/
def Obligations.AlphaRowsAreReservedOnR2000 : Prop :=
  ∀ (s : State) (a : BitVec 26) (c : BitVec 20) (i : Instr) (r : Refusal),
    (i, r) ∈ [(Instr.beql a, Refusal.notDescribed "BEQL"), (.bnel a, .notDescribed "BNEL"),
      (.blezl a, .notDescribed "BLEZL"), (.tge c, .notDescribed "TGE"), (.tgeu c, .notDescribed "TGEU"),
      (.tlt c, .notDescribed "TLT"), (.tltu c, .notDescribed "TLTU"), (.teq c, .notDescribed "TEQ"),
      (.tne c, .notDescribed "TNE"), (.ldc1 a, .coprocessorNotDescribed "LDC1"),
      (.ldc2 a, .coprocessorNotDescribed "LDC2"), (.sdc1 a, .coprocessorNotDescribed "SDC1"),
      (.sdc2 a, .coprocessorNotDescribed "SDC2")] →
    (s.cfg.impl = .r2000R3000 →
      ∃ t, exec i s = .next t ∧ TakesException s t .reservedInstruction none none) ∧
    (s.cfg.impl = .r4000R6000 → exec i s = .refused r)

/-- R202: the rows with no mark and no description page are refused by name on both implementations. -/
def Obligations.NamedOnlyRowsAreRefused : Prop :=
  ∀ (s : State) (a : BitVec 26) (c : BitVec 20) (rs : BitVec 5) (low : BitVec 16) (i : Instr) (m : String),
    (i, m) ∈ [(Instr.blez a, "BLEZ"), (.ll a, "LL"), (.sc a, "SC"), (.syscall c, "SYSCALL"), (.mfhi c, "MFHI"),
      (.mthi c, "MTHI"), (.mflo c, "MFLO"), (.mtlo c, "MTLO"), (.mult c, "MULT"), (.multu c, "MULTU"),
      (.div c, "DIV"), (.divu c, "DIVU"), (.bltz rs low, "BLTZ"), (.bgez rs low, "BGEZ"),
      (.bltzal rs low, "BLTZAL"), (.bgezal rs low, "BGEZAL")] →
    exec i s = .refused (.notDescribed m)

/-- R191, R194: the coprocessor rows with no mark are refused by name on both implementations, a COPz word with the cell
it selects: CO if bit 25 is set, else by `rs`, and under BC by `rt`; every other cell is gamma, or stands in the lost
column 7 (reading of the map: log 24). -/
def Obligations.CoprocessorRowsAreRefused : Prop :=
  (∀ (s : State) (a : BitVec 26) (i : Instr) (m : String),
    ((i, m) ∈ [(Instr.lwc1 a, "LWC1"), (.lwc2 a, "LWC2"), (.lwc3 a, "LWC3"), (.swc1 a, "SWC1"), (.swc2 a, "SWC2"),
        (.swc3 a, "SWC3")] → exec i s = .refused (.coprocessorNotDescribed m)) ∧
    ((i, m) ∈ [(Instr.cop0 a, "COP0"), (.cop1 a, "COP1"), (.cop2 a, "COP2"), (.cop3 a, "COP3")] →
      exec i s = .refused (.coprocessorFormNotDescribed m (copForm a)))) ∧
  (∀ operation : BitVec 25, copForm (1#1 ++ operation) = .co operation) ∧
  (∀ (rs : Reg) (low : BitVec 21), rs.toNat < 16 → rs ≠ 0b01000#5 →
    copForm (rs ++ low) =
      if rs = 0b00000#5 then .mf low else if rs = 0b00010#5 then .cf low else if rs = 0b00100#5 then .mt low
      else if rs = 0b00110#5 then .ct low else if rs.toNat % 8 = 7 then .lostRs rs low else .gammaRs rs low) ∧
  ∀ (rt : Reg) (low : BitVec 16),
    copForm (0b01000#5 ++ rt ++ low) =
      if rt = 0b00000#5 then .bcf low else if rt = 0b00001#5 then .bct low else if rt = 0b00010#5 then .bcfl low
      else if rt = 0b00011#5 then .bctl low else if rt.toNat % 8 = 7 then .lostRt rt low else .gammaRt rt low

/-- R70: the rows marked beta are refused on the R2000/R3000, where they are not valid and not trapped, and on the
R4000/R6000, where they are not described. -/
def Obligations.BetaRowsAreRefused : Prop :=
  ∀ (s : State) (rs : BitVec 5) (low : BitVec 16) (i : Instr) (m : String),
    (i, m) ∈ [(Instr.bltzl rs low, "BLTZL"), (.bgezl rs low, "BGEZL"), (.bltzall rs low, "BLTZALL"),
      (.bgezall rs low, "BGEZALL"), (.tgei rs low, "TGEI"), (.tgeiu rs low, "TGEIU"), (.tlti rs low, "TLTI"),
      (.tltiu rs low, "TLTIU"), (.teqi rs low, "TEQI"), (.tnei rs low, "TNEI")] →
    (s.cfg.impl = .r2000R3000 → exec i s = .refused (.notValidOnR2000 m)) ∧
    (s.cfg.impl = .r4000R6000 → exec i s = .refused (.notDescribed m))

/-- R67, R68: words written out from the encoding tables decode to their instruction. -/
def Obligations.HandWrittenWordsDecode : Prop :=
  decode 0x00432020#32 = .instr (.add 4 2 3) ∧ decode 0x2004FFFF#32 = .instr (.addi 4 0 0xFFFF) ∧
  decode 0x00021FC0#32 = .instr (.sll 3 2 31) ∧ decode 0x8C22FFFC#32 = .instr (.lw 2 0xFFFC 1) ∧
  decode 0xA4220002#32 = .instr (.sh 2 2 1) ∧ decode 0x10220003#32 = .instr (.beq 1 2 3) ∧
  decode 0x0040F809#32 = .instr (.jalr 31 2) ∧ decode 0x0000000D#32 = .instr (.brk 0) ∧
  decode 0x50220003#32 = .instr (.beql 0x0220003) ∧ decode 0x04110010#32 = .instr (.bgezal 0 0x10)

/-! ## The step and its invariants -/

/-- R16, R43, R71: a step runs the instruction that the four bytes at the program counter decode to, in the byte order of
`BigEndianMem`; the step adds nothing around it. -/
def Obligations.StepRunsTheDecodedInstruction : Prop :=
  ∀ (s : State) (p : PAddr) (u : Bool) (i : Instr), s.raised = none → s.pc.toNat % 4 = 0 →
    addressTranslation s.cfg s.pc .fetch = .ok (p, u) → busErrorAt s.cfg p.toNat = false →
    (∀ a ∈ s.written, a / 4 ≠ p.frame) →
    decodeBytes s.cfg.bigEndianMem (s.mem.read p.toNat) (s.mem.read (p.toNat + 1)) (s.mem.read (p.toNat + 2))
      (s.mem.read (p.toNat + 3)) = .instr i →
    step s = exec i s

/-- R50: the fetch of a word any byte of which a store of the run has written is refused. -/
def Obligations.StoredWordIsNotFetched : Prop :=
  ∀ (s : State) (p : PAddr) (u : Bool) (a : Nat), s.raised = none → s.pc.toNat % 4 = 0 →
    addressTranslation s.cfg s.pc .fetch = .ok (p, u) → busErrorAt s.cfg p.toNat = false → a ∈ s.written → a / 4 = p.frame →
    step s = .refused .storedInstruction

/-- R44, R50: memory changes only by a store, only at bytes that the step records as stored, and a recorded byte stays
recorded. -/
def Obligations.MemoryChangesOnlyByStores : Prop :=
  ∀ (i : Instr) (s t : State) (a : Nat), exec i s = .next t →
    (t.mem.read a ≠ s.mem.read a → i.family = .store ∧ a ∈ t.written) ∧ (a ∈ s.written → a ∈ t.written)

/-- The invariant of the machine (R11, R15, R18, R31, R217) is kept by every step. -/
def Obligations.StepKeepsTheInvariant : Prop :=
  ∀ s t : State, s.wf = true → step s = .next t → t.wf = true

/-- The invariant of the machine holds at reset, whose values log 4, 5, 17 and 18 name where the spec gives none. -/
def Obligations.ResetMeetsTheInvariant : Prop := State.reset.wf = true

/-- R21, R25, R26, R24, R28, R38: no step changes the arguments of the model, SR, the mode, HI, LO, the LL bit or a
coprocessor register. -/
def Obligations.StepKeepsTheFixedParts : Prop :=
  ∀ s t : State, step s = .next t → s.sameFixedParts t

/-- R29, R251: at launch register 0 is zero, the program counter is a multiple of 4, the next instruction is the
following word, no delay slot is open and no load is pending; and (R23) the high half of the revision register reads
zero. -/
def Obligations.ResetStateIsTheLaunchState : Prop :=
  State.reset.readGpr 0#5 = 0#32 ∧ State.reset.pc.toNat % 4 = 0 ∧ State.reset.npc = State.reset.pc + 4#32 ∧
  State.reset.inDelay = false ∧ State.reset.pending = none ∧ State.reset.revision.extractLsb' 16 16 = 0#16
end

