-- ==== Sys2Proof/Laws/Memory.lean ====
section
/-! SUPPORT. Memory: a read after a write, and every operation keeps the canonical form. -/

namespace Sys2Proof.Machine

theorem Memory.lookup_write_same (m : Memory) (a : Nat) (b : Byte) : (m.write a b).lookup a = some b := by
  induction m with
  | nil => simp [Memory.write, Memory.lookup]
  | cons c rest ih =>
    obtain ⟨k, c⟩ := c
    simp only [Memory.write]
    split
    · simp [Memory.lookup]
    · split
      · simp [Memory.lookup]
      · simp only [Memory.lookup]
        rw [if_neg ‹_›, if_neg ‹_›, ih]

theorem Memory.lookup_write_other (m : Memory) (a a' : Nat) (b : Byte) (h : a' ≠ a) :
    (m.write a b).lookup a' = m.lookup a' ∨ (m.lookup a' = none ∧ (m.write a b).lookup a' = none) := by
  induction m with
  | nil => simp [Memory.write, Memory.lookup, h]
  | cons c rest ih =>
    obtain ⟨k, c⟩ := c
    simp only [Memory.write]
    split
    · simp only [Memory.lookup, if_neg h]
      by_cases ha : a' < a
      · rw [if_pos ha]
        have h1 : ¬ a' = k := by omega
        have h2 : a' < k := by omega
        simp [h1, h2]
      · rw [if_neg ha]; exact Or.inl rfl
    · split
      · subst_vars; simp only [Memory.lookup, if_neg h]; exact Or.inl trivial
      · simp only [Memory.lookup]
        by_cases hk : a' = k
        · simp [hk]
        · by_cases hl : a' < k
          · simp [hk, hl]
          · simp only [if_neg hk, if_neg hl]; exact ih

/-- "a load returns the last value stored there" (20_memory.md R45), at one byte. -/
@[simp] theorem Memory.read_write_same (m : Memory) (a : Nat) (b : Byte) : (m.write a b).read a = b := by
  simp [Memory.read, Memory.lookup_write_same]

/-- A write leaves every other byte alone (20_memory.md R34). -/
theorem Memory.read_write_other (m : Memory) (a a' : Nat) (b : Byte) (h : a' ≠ a) :
    (m.write a b).read a' = m.read a' := by
  rcases Memory.lookup_write_other m a a' b h with e | ⟨e1, e2⟩
  · simp [Memory.read, e]
  · simp [Memory.read, e1, e2]

theorem Memory.read_write (m : Memory) (a a' : Nat) (b : Byte) :
    (m.write a b).read a' = if a' = a then b else m.read a' := by
  split
  · subst_vars; simp
  · exact Memory.read_write_other m a a' b ‹_›

theorem Memory.risesAbove_write (m : Memory) (n a : Nat) (b : Byte) (hn : n < a) (h : m.risesAbove n = true) :
    (m.write a b).risesAbove n = true := by
  induction m generalizing n with
  | nil => simpa [Memory.write, Memory.risesAbove] using hn
  | cons c rest ih =>
    obtain ⟨k, c⟩ := c
    simp only [Memory.risesAbove, Bool.and_eq_true, decide_eq_true_eq] at h
    simp only [Memory.write]
    split
    · simp [Memory.risesAbove, h, hn, ‹a < k›]
    · split
      · simp [Memory.risesAbove, h, ‹a = k›]
      · simp only [Memory.risesAbove, Bool.and_eq_true, decide_eq_true_eq]
        exact ⟨h.1, ih k (by omega) h.2⟩

/-- A write keeps the canonical form. -/
theorem Memory.wf_write (m : Memory) (a : Nat) (b : Byte) (h : m.wf = true) : (m.write a b).wf = true := by
  cases m with
  | nil => rfl
  | cons c rest =>
    obtain ⟨k, c⟩ := c
    simp only [Memory.wf] at h
    simp only [Memory.write]
    split
    · simp [Memory.wf, Memory.risesAbove, h, ‹a < k›]
    · split
      · subst_vars; simpa [Memory.wf] using h
      · simp only [Memory.wf]
        exact Memory.risesAbove_write rest k a b (by omega) h

theorem addressesRiseAbove_mark (l : List Nat) (n a : Nat) (hn : n < a) (h : addressesRiseAbove n l = true) :
    addressesRiseAbove n (markAddress l a) = true := by
  induction l generalizing n with
  | nil => simpa [markAddress, addressesRiseAbove] using hn
  | cons k rest ih =>
    simp only [addressesRiseAbove, Bool.and_eq_true, decide_eq_true_eq] at h
    simp only [markAddress]
    split
    · simp [addressesRiseAbove, h, hn, ‹a < k›]
    · split
      · simp [addressesRiseAbove, h]
      · simp only [addressesRiseAbove, Bool.and_eq_true, decide_eq_true_eq]
        exact ⟨h.1, ih k (by omega) h.2⟩

/-- Recording a written address keeps the canonical form. -/
theorem addressesWf_mark (l : List Nat) (a : Nat) (h : addressesWf l = true) : addressesWf (markAddress l a) = true := by
  cases l with
  | nil => rfl
  | cons k rest =>
    simp only [addressesWf] at h
    simp only [markAddress]
    split
    · simp [addressesWf, addressesRiseAbove, h, ‹a < k›]
    · split
      · simpa [addressesWf] using h
      · simp only [addressesWf]
        exact addressesRiseAbove_mark rest k a (by omega) h

theorem addressesRiseAbove_weaken (l : List Nat) (n n' : Nat) (hn : n' ≤ n) (h : addressesRiseAbove n l = true) :
    addressesRiseAbove n' l = true := by
  cases l with
  | nil => rfl
  | cons k rest =>
    simp only [addressesRiseAbove, Bool.and_eq_true, decide_eq_true_eq] at h ⊢
    exact ⟨by omega, h.2⟩

theorem addressesRiseAbove_unmark (l : List Nat) (n a : Nat) (h : addressesRiseAbove n l = true) :
    addressesRiseAbove n (unmarkAddress l a) = true := by
  induction l generalizing n with
  | nil => exact h
  | cons k rest ih =>
    simp only [addressesRiseAbove, Bool.and_eq_true, decide_eq_true_eq] at h
    simp only [unmarkAddress]
    split
    · exact addressesRiseAbove_weaken _ k n (by omega) (ih k h.2)
    · simp only [addressesRiseAbove, Bool.and_eq_true, decide_eq_true_eq]
      exact ⟨h.1, ih k h.2⟩

/-- Taking an address out keeps the canonical form. -/
theorem addressesWf_unmark (l : List Nat) (a : Nat) (h : addressesWf l = true) :
    addressesWf (unmarkAddress l a) = true := by
  induction l with
  | nil => rfl
  | cons k rest ih =>
    simp only [addressesWf] at h
    simp only [unmarkAddress]
    split
    · apply ih
      cases rest with
      | nil => rfl
      | cons k' rest' =>
        simp only [addressesRiseAbove, Bool.and_eq_true, decide_eq_true_eq] at h
        exact h.2
    · exact addressesRiseAbove_unmark rest k a h

/-- An address is recorded exactly when it was before or is the one added (20_memory.md R50). -/
theorem mem_markAddress (l : List Nat) (a a' : Nat) : a' ∈ markAddress l a ↔ a' = a ∨ a' ∈ l := by
  induction l with
  | nil => simp [markAddress]
  | cons k rest ih =>
    simp only [markAddress]
    split
    · simp
    · split
      · subst_vars; simp
      · simp [ih]; tauto

end Sys2Proof.Machine
end

