-- ==== Sys2Proof/Laws/State.lean ====
section
/-! SUPPORT. One lemma per field per update of the state, each true by definition, so that no later proof unfolds a
record update. -/

namespace Sys2Proof.Machine

@[simp] theorem State.setReg_regs (s : State) (r : Reg) (v : Word) :
    (s.setReg r v).regs = if r = 0#5 then s.regs else s.regs.set r.toNat v r.isLt := rfl
@[simp] theorem State.setReg_pc (s : State) (r : Reg) (v : Word) : (s.setReg r v).pc = s.pc := rfl
@[simp] theorem State.setReg_npc (s : State) (r : Reg) (v : Word) : (s.setReg r v).npc = s.npc := rfl
@[simp] theorem State.setReg_inDelay (s : State) (r : Reg) (v : Word) : (s.setReg r v).inDelay = s.inDelay := rfl
@[simp] theorem State.setReg_pending (s : State) (r : Reg) (v : Word) : (s.setReg r v).pending = s.pending := rfl
@[simp] theorem State.setReg_mem (s : State) (r : Reg) (v : Word) : (s.setReg r v).mem = s.mem := rfl
@[simp] theorem State.setReg_written (s : State) (r : Reg) (v : Word) : (s.setReg r v).written = s.written := rfl
@[simp] theorem State.setReg_hi (s : State) (r : Reg) (v : Word) : (s.setReg r v).hi = s.hi := rfl
@[simp] theorem State.setReg_lo (s : State) (r : Reg) (v : Word) : (s.setReg r v).lo = s.lo := rfl
@[simp] theorem State.setReg_llBit (s : State) (r : Reg) (v : Word) : (s.setReg r v).llBit = s.llBit := rfl
@[simp] theorem State.setReg_sr (s : State) (r : Reg) (v : Word) : (s.setReg r v).sr = s.sr := rfl
@[simp] theorem State.setReg_mode (s : State) (r : Reg) (v : Word) : (s.setReg r v).mode = s.mode := rfl
@[simp] theorem State.setReg_epc (s : State) (r : Reg) (v : Word) : (s.setReg r v).epc = s.epc := rfl
@[simp] theorem State.setReg_cop (s : State) (r : Reg) (v : Word) : (s.setReg r v).cop = s.cop := rfl
@[simp] theorem State.setReg_raised (s : State) (r : Reg) (v : Word) : (s.setReg r v).raised = s.raised := rfl
@[simp] theorem State.setReg_freeCount (s : State) (r : Reg) (v : Word) : (s.setReg r v).freeCount = s.freeCount := rfl
@[simp] theorem State.setReg_cfg (s : State) (r : Reg) (v : Word) : (s.setReg r v).cfg = s.cfg := rfl

@[simp] theorem State.clearPending_regs (s : State) : (s.clearPending).regs = s.regs := rfl
@[simp] theorem State.clearPending_pc (s : State) : (s.clearPending).pc = s.pc := rfl
@[simp] theorem State.clearPending_npc (s : State) : (s.clearPending).npc = s.npc := rfl
@[simp] theorem State.clearPending_inDelay (s : State) : (s.clearPending).inDelay = s.inDelay := rfl
@[simp] theorem State.clearPending_pending (s : State) :
    (s.clearPending).pending = none := rfl
@[simp] theorem State.clearPending_mem (s : State) : (s.clearPending).mem = s.mem := rfl
@[simp] theorem State.clearPending_written (s : State) : (s.clearPending).written = s.written := rfl
@[simp] theorem State.clearPending_hi (s : State) : (s.clearPending).hi = s.hi := rfl
@[simp] theorem State.clearPending_lo (s : State) : (s.clearPending).lo = s.lo := rfl
@[simp] theorem State.clearPending_llBit (s : State) : (s.clearPending).llBit = s.llBit := rfl
@[simp] theorem State.clearPending_sr (s : State) : (s.clearPending).sr = s.sr := rfl
@[simp] theorem State.clearPending_mode (s : State) : (s.clearPending).mode = s.mode := rfl
@[simp] theorem State.clearPending_epc (s : State) : (s.clearPending).epc = s.epc := rfl
@[simp] theorem State.clearPending_cop (s : State) : (s.clearPending).cop = s.cop := rfl
@[simp] theorem State.clearPending_raised (s : State) : (s.clearPending).raised = s.raised := rfl
@[simp] theorem State.clearPending_freeCount (s : State) :
    (s.clearPending).freeCount = if s.pending.isSome then s.freeCount + 1 else s.freeCount := rfl
@[simp] theorem State.clearPending_cfg (s : State) : (s.clearPending).cfg = s.cfg := rfl

@[simp] theorem State.delayWrite_regs (s : State) (rt : Reg) (v : Word) : (s.delayWrite rt v).regs = s.regs := rfl
@[simp] theorem State.delayWrite_pc (s : State) (rt : Reg) (v : Word) : (s.delayWrite rt v).pc = s.pc := rfl
@[simp] theorem State.delayWrite_npc (s : State) (rt : Reg) (v : Word) : (s.delayWrite rt v).npc = s.npc := rfl
@[simp] theorem State.delayWrite_inDelay (s : State) (rt : Reg) (v : Word) : (s.delayWrite rt v).inDelay = s.inDelay := rfl
@[simp] theorem State.delayWrite_pending (s : State) (rt : Reg) (v : Word) :
    (s.delayWrite rt v).pending = if rt = 0#5 then s.pending else some (rt, v) := rfl
@[simp] theorem State.delayWrite_mem (s : State) (rt : Reg) (v : Word) : (s.delayWrite rt v).mem = s.mem := rfl
@[simp] theorem State.delayWrite_written (s : State) (rt : Reg) (v : Word) : (s.delayWrite rt v).written = s.written := rfl
@[simp] theorem State.delayWrite_hi (s : State) (rt : Reg) (v : Word) : (s.delayWrite rt v).hi = s.hi := rfl
@[simp] theorem State.delayWrite_lo (s : State) (rt : Reg) (v : Word) : (s.delayWrite rt v).lo = s.lo := rfl
@[simp] theorem State.delayWrite_llBit (s : State) (rt : Reg) (v : Word) : (s.delayWrite rt v).llBit = s.llBit := rfl
@[simp] theorem State.delayWrite_sr (s : State) (rt : Reg) (v : Word) : (s.delayWrite rt v).sr = s.sr := rfl
@[simp] theorem State.delayWrite_mode (s : State) (rt : Reg) (v : Word) : (s.delayWrite rt v).mode = s.mode := rfl
@[simp] theorem State.delayWrite_epc (s : State) (rt : Reg) (v : Word) : (s.delayWrite rt v).epc = s.epc := rfl
@[simp] theorem State.delayWrite_cop (s : State) (rt : Reg) (v : Word) : (s.delayWrite rt v).cop = s.cop := rfl
@[simp] theorem State.delayWrite_raised (s : State) (rt : Reg) (v : Word) : (s.delayWrite rt v).raised = s.raised := rfl
@[simp] theorem State.delayWrite_freeCount (s : State) (rt : Reg) (v : Word) : (s.delayWrite rt v).freeCount = s.freeCount := rfl
@[simp] theorem State.delayWrite_cfg (s : State) (rt : Reg) (v : Word) : (s.delayWrite rt v).cfg = s.cfg := rfl

@[simp] theorem State.advance_regs (s : State) : (s.advance).regs = s.regs := rfl
@[simp] theorem State.advance_pc (s : State) :
    (s.advance).pc = s.npc := rfl
@[simp] theorem State.advance_npc (s : State) :
    (s.advance).npc = s.npc + 4#32 := rfl
@[simp] theorem State.advance_inDelay (s : State) :
    (s.advance).inDelay = false := rfl
@[simp] theorem State.advance_pending (s : State) : (s.advance).pending = s.pending := rfl
@[simp] theorem State.advance_mem (s : State) : (s.advance).mem = s.mem := rfl
@[simp] theorem State.advance_written (s : State) : (s.advance).written = s.written := rfl
@[simp] theorem State.advance_hi (s : State) : (s.advance).hi = s.hi := rfl
@[simp] theorem State.advance_lo (s : State) : (s.advance).lo = s.lo := rfl
@[simp] theorem State.advance_llBit (s : State) : (s.advance).llBit = s.llBit := rfl
@[simp] theorem State.advance_sr (s : State) : (s.advance).sr = s.sr := rfl
@[simp] theorem State.advance_mode (s : State) : (s.advance).mode = s.mode := rfl
@[simp] theorem State.advance_epc (s : State) : (s.advance).epc = s.epc := rfl
@[simp] theorem State.advance_cop (s : State) : (s.advance).cop = s.cop := rfl
@[simp] theorem State.advance_raised (s : State) : (s.advance).raised = s.raised := rfl
@[simp] theorem State.advance_freeCount (s : State) : (s.advance).freeCount = s.freeCount := rfl
@[simp] theorem State.advance_cfg (s : State) : (s.advance).cfg = s.cfg := rfl

@[simp] theorem State.transfer_regs (s : State) (next : Word) : (s.transfer next).regs = s.regs := rfl
@[simp] theorem State.transfer_pc (s : State) (next : Word) :
    (s.transfer next).pc = s.npc := rfl
@[simp] theorem State.transfer_npc (s : State) (next : Word) :
    (s.transfer next).npc = next := rfl
@[simp] theorem State.transfer_inDelay (s : State) (next : Word) :
    (s.transfer next).inDelay = true := rfl
@[simp] theorem State.transfer_pending (s : State) (next : Word) : (s.transfer next).pending = s.pending := rfl
@[simp] theorem State.transfer_mem (s : State) (next : Word) : (s.transfer next).mem = s.mem := rfl
@[simp] theorem State.transfer_written (s : State) (next : Word) : (s.transfer next).written = s.written := rfl
@[simp] theorem State.transfer_hi (s : State) (next : Word) : (s.transfer next).hi = s.hi := rfl
@[simp] theorem State.transfer_lo (s : State) (next : Word) : (s.transfer next).lo = s.lo := rfl
@[simp] theorem State.transfer_llBit (s : State) (next : Word) : (s.transfer next).llBit = s.llBit := rfl
@[simp] theorem State.transfer_sr (s : State) (next : Word) : (s.transfer next).sr = s.sr := rfl
@[simp] theorem State.transfer_mode (s : State) (next : Word) : (s.transfer next).mode = s.mode := rfl
@[simp] theorem State.transfer_epc (s : State) (next : Word) : (s.transfer next).epc = s.epc := rfl
@[simp] theorem State.transfer_cop (s : State) (next : Word) : (s.transfer next).cop = s.cop := rfl
@[simp] theorem State.transfer_raised (s : State) (next : Word) : (s.transfer next).raised = s.raised := rfl
@[simp] theorem State.transfer_freeCount (s : State) (next : Word) : (s.transfer next).freeCount = s.freeCount := rfl
@[simp] theorem State.transfer_cfg (s : State) (next : Word) : (s.transfer next).cfg = s.cfg := rfl

@[simp] theorem State.restart_regs (s : State) : (s.restart).regs = s.regs := rfl
@[simp] theorem State.restart_pc (s : State) :
    (s.restart).pc = s.epc := rfl
@[simp] theorem State.restart_npc (s : State) :
    (s.restart).npc = s.epc + 4#32 := rfl
@[simp] theorem State.restart_inDelay (s : State) :
    (s.restart).inDelay = false := rfl
@[simp] theorem State.restart_pending (s : State) : (s.restart).pending = s.pending := rfl
@[simp] theorem State.restart_mem (s : State) : (s.restart).mem = s.mem := rfl
@[simp] theorem State.restart_written (s : State) : (s.restart).written = s.written := rfl
@[simp] theorem State.restart_hi (s : State) : (s.restart).hi = s.hi := rfl
@[simp] theorem State.restart_lo (s : State) : (s.restart).lo = s.lo := rfl
@[simp] theorem State.restart_llBit (s : State) : (s.restart).llBit = s.llBit := rfl
@[simp] theorem State.restart_sr (s : State) : (s.restart).sr = s.sr := rfl
@[simp] theorem State.restart_mode (s : State) : (s.restart).mode = s.mode := rfl
@[simp] theorem State.restart_epc (s : State) : (s.restart).epc = s.epc := rfl
@[simp] theorem State.restart_cop (s : State) : (s.restart).cop = s.cop := rfl
@[simp] theorem State.restart_raised (s : State) :
    (s.restart).raised = none := rfl
@[simp] theorem State.restart_freeCount (s : State) : (s.restart).freeCount = s.freeCount := rfl
@[simp] theorem State.restart_cfg (s : State) : (s.restart).cfg = s.cfg := rfl

@[simp] theorem State.putByte_regs (s : State) (a : Nat) (b : Byte) : (s.putByte a b).regs = s.regs := rfl
@[simp] theorem State.putByte_pc (s : State) (a : Nat) (b : Byte) : (s.putByte a b).pc = s.pc := rfl
@[simp] theorem State.putByte_npc (s : State) (a : Nat) (b : Byte) : (s.putByte a b).npc = s.npc := rfl
@[simp] theorem State.putByte_inDelay (s : State) (a : Nat) (b : Byte) : (s.putByte a b).inDelay = s.inDelay := rfl
@[simp] theorem State.putByte_pending (s : State) (a : Nat) (b : Byte) : (s.putByte a b).pending = s.pending := rfl
@[simp] theorem State.putByte_mem (s : State) (a : Nat) (b : Byte) :
    (s.putByte a b).mem = s.mem.write a b := rfl
@[simp] theorem State.putByte_written (s : State) (a : Nat) (b : Byte) :
    (s.putByte a b).written = markAddress s.written a := rfl
@[simp] theorem State.putByte_hi (s : State) (a : Nat) (b : Byte) : (s.putByte a b).hi = s.hi := rfl
@[simp] theorem State.putByte_lo (s : State) (a : Nat) (b : Byte) : (s.putByte a b).lo = s.lo := rfl
@[simp] theorem State.putByte_llBit (s : State) (a : Nat) (b : Byte) : (s.putByte a b).llBit = s.llBit := rfl
@[simp] theorem State.putByte_sr (s : State) (a : Nat) (b : Byte) : (s.putByte a b).sr = s.sr := rfl
@[simp] theorem State.putByte_mode (s : State) (a : Nat) (b : Byte) : (s.putByte a b).mode = s.mode := rfl
@[simp] theorem State.putByte_epc (s : State) (a : Nat) (b : Byte) : (s.putByte a b).epc = s.epc := rfl
@[simp] theorem State.putByte_cop (s : State) (a : Nat) (b : Byte) : (s.putByte a b).cop = s.cop := rfl
@[simp] theorem State.putByte_raised (s : State) (a : Nat) (b : Byte) : (s.putByte a b).raised = s.raised := rfl
@[simp] theorem State.putByte_freeCount (s : State) (a : Nat) (b : Byte) : (s.putByte a b).freeCount = s.freeCount := rfl
@[simp] theorem State.putByte_cfg (s : State) (a : Nat) (b : Byte) : (s.putByte a b).cfg = s.cfg := rfl

@[simp] theorem State.placeByte_regs (s : State) (a : Nat) (b : Byte) : (s.placeByte a b).regs = s.regs := rfl
@[simp] theorem State.placeByte_pc (s : State) (a : Nat) (b : Byte) : (s.placeByte a b).pc = s.pc := rfl
@[simp] theorem State.placeByte_npc (s : State) (a : Nat) (b : Byte) : (s.placeByte a b).npc = s.npc := rfl
@[simp] theorem State.placeByte_inDelay (s : State) (a : Nat) (b : Byte) : (s.placeByte a b).inDelay = s.inDelay := rfl
@[simp] theorem State.placeByte_pending (s : State) (a : Nat) (b : Byte) : (s.placeByte a b).pending = s.pending := rfl
@[simp] theorem State.placeByte_mem (s : State) (a : Nat) (b : Byte) :
    (s.placeByte a b).mem = s.mem.write a b := rfl
@[simp] theorem State.placeByte_written (s : State) (a : Nat) (b : Byte) :
    (s.placeByte a b).written = unmarkAddress s.written a := rfl
@[simp] theorem State.placeByte_hi (s : State) (a : Nat) (b : Byte) : (s.placeByte a b).hi = s.hi := rfl
@[simp] theorem State.placeByte_lo (s : State) (a : Nat) (b : Byte) : (s.placeByte a b).lo = s.lo := rfl
@[simp] theorem State.placeByte_llBit (s : State) (a : Nat) (b : Byte) : (s.placeByte a b).llBit = s.llBit := rfl
@[simp] theorem State.placeByte_sr (s : State) (a : Nat) (b : Byte) : (s.placeByte a b).sr = s.sr := rfl
@[simp] theorem State.placeByte_mode (s : State) (a : Nat) (b : Byte) : (s.placeByte a b).mode = s.mode := rfl
@[simp] theorem State.placeByte_epc (s : State) (a : Nat) (b : Byte) : (s.placeByte a b).epc = s.epc := rfl
@[simp] theorem State.placeByte_cop (s : State) (a : Nat) (b : Byte) : (s.placeByte a b).cop = s.cop := rfl
@[simp] theorem State.placeByte_raised (s : State) (a : Nat) (b : Byte) : (s.placeByte a b).raised = s.raised := rfl
@[simp] theorem State.placeByte_freeCount (s : State) (a : Nat) (b : Byte) : (s.placeByte a b).freeCount = s.freeCount := rfl
@[simp] theorem State.placeByte_cfg (s : State) (a : Nat) (b : Byte) : (s.placeByte a b).cfg = s.cfg := rfl

end Sys2Proof.Machine
end

