-- ==== Sys2Proof/Laws/Ops.lean ====
section
/-! SUPPORT. What each shared operation over registers, the program counter and exceptions can do, said once. -/

namespace Sys2Proof.Machine

/-! ## Reading and writing registers -/

@[simp] theorem State.readGpr_zero (s : State) : s.readGpr 0#5 = 0#32 := by simp [State.readGpr]

/-- Two states with the same register storage read the same registers. -/
theorem State.readGpr_congr (s t : State) (h : t.regs = s.regs) (r : Reg) : t.readGpr r = s.readGpr r := by
  simp [State.readGpr, h]

/-- What a register reads after a write (10_state.md R11). -/
theorem State.readGpr_setReg (s : State) (r : Reg) (v : Word) (r' : Reg) :
    (s.setReg r v).readGpr r' = if r' = r ∧ r ≠ 0#5 then v else s.readGpr r' := by
  by_cases hr : r = 0#5
  · simp [State.readGpr, hr]
  · by_cases h : r' = r
    · subst h; simp [State.readGpr, hr]
    · have hn : r.toNat ≠ r'.toNat := fun e => h (BitVec.eq_of_toNat_eq e.symm)
      simp [State.readGpr, hr, h, hn]

@[simp] theorem State.setReg_zero (s : State) (v : Word) : s.setReg 0#5 v = s := by
  cases s; simp [State.setReg]

@[simp] theorem State.readGpr_clearPending (s : State) (r : Reg) : s.clearPending.readGpr r = s.readGpr r := rfl
@[simp] theorem State.readGpr_delayWrite (s : State) (rt : Reg) (v : Word) (r : Reg) :
    (s.delayWrite rt v).readGpr r = s.readGpr r := rfl
@[simp] theorem State.readGpr_advance (s : State) (r : Reg) : s.advance.readGpr r = s.readGpr r := rfl
@[simp] theorem State.readGpr_transfer (s : State) (n : Word) (r : Reg) : (s.transfer n).readGpr r = s.readGpr r := rfl
@[simp] theorem State.readGpr_restart (s : State) (r : Reg) : s.restart.readGpr r = s.readGpr r := rfl
@[simp] theorem State.readGpr_putByte (s : State) (a : Nat) (b : Byte) (r : Reg) :
    (s.putByte a b).readGpr r = s.readGpr r := rfl

/-! ## The delayed write of a load -/

theorem State.commitPending_none (s : State) (h : s.pending = none) : s.commitPending = s := by
  simp [State.commitPending, h]

theorem State.commitPending_some (s : State) (r : Reg) (v : Word) (h : s.pending = some (r, v)) :
    s.commitPending = (s.setReg r v).clearPending := by
  simp [State.commitPending, h]

theorem State.inLoadDelay_iff (s : State) (r : Reg) : s.inLoadDelay r = true ↔ ∃ v, s.pending = some (r, v) := by
  unfold State.inLoadDelay
  split
  · rename_i p v h; simp [h]
  · rename_i h; simp [h]

/-- Line 8a (10_state.md R16): the register of the pending load reads the loaded value, every other one is unchanged. -/
theorem State.readGpr_commitPending (s : State) (r : Reg) :
    s.commitPending.readGpr r =
      match s.pending with
      | some (p, v) => if r = p ∧ p ≠ 0#5 then v else s.readGpr r
      | none => s.readGpr r := by
  unfold State.commitPending
  split <;> simp [State.readGpr_setReg, *]

@[simp] theorem State.commitPending_pending (s : State) : s.commitPending.pending = none := by
  unfold State.commitPending
  split <;> simp [*]


@[simp] theorem State.commitPending_pc (s : State) : s.commitPending.pc = s.pc := by
  unfold State.commitPending; split <;> rfl

@[simp] theorem State.commitPending_npc (s : State) : s.commitPending.npc = s.npc := by
  unfold State.commitPending; split <;> rfl

@[simp] theorem State.commitPending_inDelay (s : State) : s.commitPending.inDelay = s.inDelay := by
  unfold State.commitPending; split <;> rfl

@[simp] theorem State.commitPending_mem (s : State) : s.commitPending.mem = s.mem := by
  unfold State.commitPending; split <;> rfl

@[simp] theorem State.commitPending_written (s : State) : s.commitPending.written = s.written := by
  unfold State.commitPending; split <;> rfl

@[simp] theorem State.commitPending_hi (s : State) : s.commitPending.hi = s.hi := by
  unfold State.commitPending; split <;> rfl

@[simp] theorem State.commitPending_lo (s : State) : s.commitPending.lo = s.lo := by
  unfold State.commitPending; split <;> rfl

@[simp] theorem State.commitPending_llBit (s : State) : s.commitPending.llBit = s.llBit := by
  unfold State.commitPending; split <;> rfl

@[simp] theorem State.commitPending_sr (s : State) : s.commitPending.sr = s.sr := by
  unfold State.commitPending; split <;> rfl

@[simp] theorem State.commitPending_mode (s : State) : s.commitPending.mode = s.mode := by
  unfold State.commitPending; split <;> rfl

@[simp] theorem State.commitPending_epc (s : State) : s.commitPending.epc = s.epc := by
  unfold State.commitPending; split <;> rfl

@[simp] theorem State.commitPending_cop (s : State) : s.commitPending.cop = s.cop := by
  unfold State.commitPending; split <;> rfl

@[simp] theorem State.commitPending_raised (s : State) : s.commitPending.raised = s.raised := by
  unfold State.commitPending; split <;> rfl

@[simp] theorem State.commitPending_cfg (s : State) : s.commitPending.cfg = s.cfg := by
  unfold State.commitPending; split <;> rfl

/-! ## The register write of an instruction -/

@[simp] theorem State.writeResult_pc (s : State) (r : Reg) (v : Word) : (s.writeResult r v).pc = s.pc := by
  simp [State.writeResult]

@[simp] theorem State.writeResult_npc (s : State) (r : Reg) (v : Word) : (s.writeResult r v).npc = s.npc := by
  simp [State.writeResult]

@[simp] theorem State.writeResult_inDelay (s : State) (r : Reg) (v : Word) : (s.writeResult r v).inDelay = s.inDelay := by
  simp [State.writeResult]

@[simp] theorem State.writeResult_mem (s : State) (r : Reg) (v : Word) : (s.writeResult r v).mem = s.mem := by
  simp [State.writeResult]

@[simp] theorem State.writeResult_written (s : State) (r : Reg) (v : Word) : (s.writeResult r v).written = s.written := by
  simp [State.writeResult]

@[simp] theorem State.writeResult_hi (s : State) (r : Reg) (v : Word) : (s.writeResult r v).hi = s.hi := by
  simp [State.writeResult]

@[simp] theorem State.writeResult_lo (s : State) (r : Reg) (v : Word) : (s.writeResult r v).lo = s.lo := by
  simp [State.writeResult]

@[simp] theorem State.writeResult_llBit (s : State) (r : Reg) (v : Word) : (s.writeResult r v).llBit = s.llBit := by
  simp [State.writeResult]

@[simp] theorem State.writeResult_sr (s : State) (r : Reg) (v : Word) : (s.writeResult r v).sr = s.sr := by
  simp [State.writeResult]

@[simp] theorem State.writeResult_mode (s : State) (r : Reg) (v : Word) : (s.writeResult r v).mode = s.mode := by
  simp [State.writeResult]

@[simp] theorem State.writeResult_epc (s : State) (r : Reg) (v : Word) : (s.writeResult r v).epc = s.epc := by
  simp [State.writeResult]

@[simp] theorem State.writeResult_cop (s : State) (r : Reg) (v : Word) : (s.writeResult r v).cop = s.cop := by
  simp [State.writeResult]

@[simp] theorem State.writeResult_raised (s : State) (r : Reg) (v : Word) : (s.writeResult r v).raised = s.raised := by
  simp [State.writeResult]

@[simp] theorem State.writeResult_cfg (s : State) (r : Reg) (v : Word) : (s.writeResult r v).cfg = s.cfg := by
  simp [State.writeResult]

@[simp] theorem State.writeResult_pending (s : State) (r : Reg) (v : Word) : (s.writeResult r v).pending = none := by
  simp [State.writeResult]

/-- What every register reads after the write of an instruction that is no load (10_state.md R16 lines 8a and 8b): the
destination the result, or the free value of a same-time write (70_reset_and_hazards.md R260); a pending load's
register the loaded value; every other register is unchanged. -/
theorem State.readGpr_writeResult (s : State) (r : Reg) (v : Word) (r' : Reg) :
    (s.writeResult r v).readGpr r' =
      if r' = r ∧ r ≠ 0#5 then (if s.inLoadDelay r then s.undefinedWord .result else v)
      else s.commitPending.readGpr r' := by
  simp [State.writeResult, State.readGpr_setReg]

/-- With no load pending, a write changes its destination alone. -/
theorem State.writeResult_of_idle (s : State) (r : Reg) (v : Word) (h : s.pending = none) :
    s.writeResult r v = s.setReg r v := by
  simp [State.writeResult, State.commitPending_none s h, State.inLoadDelay, h]

@[simp] theorem State.writeLoaded_pc (s : State) (rt : Reg) (v : Word) : (s.writeLoaded rt v).pc = s.pc := by
  unfold State.writeLoaded; split <;> simp

@[simp] theorem State.writeLoaded_npc (s : State) (rt : Reg) (v : Word) : (s.writeLoaded rt v).npc = s.npc := by
  unfold State.writeLoaded; split <;> simp

@[simp] theorem State.writeLoaded_inDelay (s : State) (rt : Reg) (v : Word) : (s.writeLoaded rt v).inDelay = s.inDelay := by
  unfold State.writeLoaded; split <;> simp

@[simp] theorem State.writeLoaded_mem (s : State) (rt : Reg) (v : Word) : (s.writeLoaded rt v).mem = s.mem := by
  unfold State.writeLoaded; split <;> simp

@[simp] theorem State.writeLoaded_written (s : State) (rt : Reg) (v : Word) : (s.writeLoaded rt v).written = s.written := by
  unfold State.writeLoaded; split <;> simp

@[simp] theorem State.writeLoaded_hi (s : State) (rt : Reg) (v : Word) : (s.writeLoaded rt v).hi = s.hi := by
  unfold State.writeLoaded; split <;> simp

@[simp] theorem State.writeLoaded_lo (s : State) (rt : Reg) (v : Word) : (s.writeLoaded rt v).lo = s.lo := by
  unfold State.writeLoaded; split <;> simp

@[simp] theorem State.writeLoaded_llBit (s : State) (rt : Reg) (v : Word) : (s.writeLoaded rt v).llBit = s.llBit := by
  unfold State.writeLoaded; split <;> simp

@[simp] theorem State.writeLoaded_sr (s : State) (rt : Reg) (v : Word) : (s.writeLoaded rt v).sr = s.sr := by
  unfold State.writeLoaded; split <;> simp

@[simp] theorem State.writeLoaded_mode (s : State) (rt : Reg) (v : Word) : (s.writeLoaded rt v).mode = s.mode := by
  unfold State.writeLoaded; split <;> simp

@[simp] theorem State.writeLoaded_epc (s : State) (rt : Reg) (v : Word) : (s.writeLoaded rt v).epc = s.epc := by
  unfold State.writeLoaded; split <;> simp

@[simp] theorem State.writeLoaded_cop (s : State) (rt : Reg) (v : Word) : (s.writeLoaded rt v).cop = s.cop := by
  unfold State.writeLoaded; split <;> simp

@[simp] theorem State.writeLoaded_raised (s : State) (rt : Reg) (v : Word) : (s.writeLoaded rt v).raised = s.raised := by
  unfold State.writeLoaded; split <;> simp

@[simp] theorem State.writeLoaded_cfg (s : State) (rt : Reg) (v : Word) : (s.writeLoaded rt v).cfg = s.cfg := by
  unfold State.writeLoaded; split <;> simp

/-- The load's write on the R4000/R6000: at once (70_reset_and_hazards.md R257). -/
theorem State.writeLoaded_r4000 (s : State) (rt : Reg) (v : Word) (h : s.cfg.impl = .r4000R6000) :
    s.writeLoaded rt v = s.commitPending.setReg rt v := by
  simp [State.writeLoaded, h]

/-- The load's write on the R2000/R3000: delayed (40_load_store.md R103). -/
theorem State.writeLoaded_r2000 (s : State) (rt : Reg) (v : Word) (h : s.cfg.impl = .r2000R3000) :
    s.writeLoaded rt v = s.commitPending.delayWrite rt v := by
  simp [State.writeLoaded, h]

/-! ## Exceptions -/

@[simp] theorem State.withException_pc (s : State) (r : Raise) : (s.withException r).pc = s.pc := by
  simp [State.withException]

@[simp] theorem State.withException_npc (s : State) (r : Raise) : (s.withException r).npc = s.npc := by
  simp [State.withException]

@[simp] theorem State.withException_inDelay (s : State) (r : Raise) : (s.withException r).inDelay = s.inDelay := by
  simp [State.withException]

@[simp] theorem State.withException_mem (s : State) (r : Raise) : (s.withException r).mem = s.mem := by
  simp [State.withException]

@[simp] theorem State.withException_written (s : State) (r : Raise) : (s.withException r).written = s.written := by
  simp [State.withException]

@[simp] theorem State.withException_hi (s : State) (r : Raise) : (s.withException r).hi = s.hi := by
  simp [State.withException]

@[simp] theorem State.withException_lo (s : State) (r : Raise) : (s.withException r).lo = s.lo := by
  simp [State.withException]

@[simp] theorem State.withException_llBit (s : State) (r : Raise) : (s.withException r).llBit = s.llBit := by
  simp [State.withException]

@[simp] theorem State.withException_sr (s : State) (r : Raise) : (s.withException r).sr = s.sr := by
  simp [State.withException]

@[simp] theorem State.withException_mode (s : State) (r : Raise) : (s.withException r).mode = s.mode := by
  simp [State.withException]

@[simp] theorem State.withException_cop (s : State) (r : Raise) : (s.withException r).cop = s.cop := by
  simp [State.withException]

@[simp] theorem State.withException_cfg (s : State) (r : Raise) : (s.withException r).cfg = s.cfg := by
  simp [State.withException]

@[simp] theorem State.withException_pending (s : State) (r : Raise) : (s.withException r).pending = none := by
  simp [State.withException]

@[simp] theorem State.withException_epc (s : State) (r : Raise) : (s.withException r).epc = s.restartAddress := rfl

@[simp] theorem State.withException_raised (s : State) (r : Raise) :
    (s.withException r).raised = some (ExceptionInfo.mk r.kind s.inDelay r.badVAddr r.access) := rfl

@[simp] theorem State.readGpr_withException (s : State) (r : Raise) (x : Reg) :
    (s.withException r).readGpr x = s.commitPending.readGpr x := rfl

/-- Taking an exception always goes on to the state it leaves. -/
theorem State.takeException_next (s t : State) (r : Raise) (h : s.takeException r = .next t) :
    t = s.withException r := by
  simp only [State.takeException] at h; cases h; rfl

/-! ## Whole steps -/

theorem State.finish_next (s t : State) (r : Reg) (v : Word) (h : s.finish r v = .next t) :
    t = (s.writeResult r v).advance := by
  simp only [State.finish] at h; cases h; rfl

theorem State.finishLoad_next (s t : State) (rt : Reg) (v : Word) (h : s.finishLoad rt v = .next t) :
    t = (s.writeLoaded rt v).advance := by
  simp only [State.finishLoad] at h; cases h; rfl

/-- A jump that completes was in no delay slot. -/
theorem State.jumpStep_next (s t : State) (o : Outcome) (h : s.jumpStep o = .next t) :
    s.inDelay = false ∧ o = .next t := by
  unfold State.jumpStep at h
  cases hd : s.inDelay with
  | true => simp [hd] at h
  | false => exact ⟨rfl, by simpa [hd] using h⟩

/-- What an alpha row can do: on the R2000/R3000 it raises Reserved Instruction (30_encoding.md R70). -/
theorem alphaRow_next (refused : Outcome) (s t : State) (hr : ∀ u, refused ≠ .next u)
    (h : alphaRow refused s = .next t) :
    s.cfg.impl = .r2000R3000 ∧ t = s.withException (.plain .reservedInstruction) := by
  unfold alphaRow at h
  split at h
  · exact ⟨‹_›, s.takeException_next t _ h⟩
  · exact absurd h (hr t)

end Sys2Proof.Machine
end

