-- ==== Sys2Proof/Laws/Access.lean ====
section
/-! SUPPORT. What translation, LoadMemory, StoreMemory and the common sequences of loads and stores can do, said once. -/

namespace Sys2Proof.Machine

/-- The four offsets of a memory word. -/
theorem bitVec2_cases : ∀ k : BitVec 2, k = 0#2 ∨ k = 1#2 ∨ k = 2#2 ∨ k = 3#2 := by decide

/-! ## Translation -/

/-- A successful translation keeps the two low bits (20_memory.md R32). -/
theorem addressTranslation_low (c : Config) (v : Word) (a : Access) (p : PAddr) (u : Bool) (h : addressTranslation c v a = .ok (p, u)) :
    p.low = lowBits v := by
  unfold addressTranslation at h
  split at h
  · cases h; rfl
  · split at h
    · cases h; rfl
    · cases h

/-- A translation that raises names the virtual address and the access (60_exceptions.md R220). -/
theorem addressTranslation_error (c : Config) (v : Word) (a : Access) (r : Raise) (h : addressTranslation c v a = .error r) :
    r.badVAddr = some v ∧ r.access = some a := by
  unfold addressTranslation at h
  split at h
  · cases h
  · split at h
    · cases h
    · cases h; exact ⟨rfl, rfl⟩

/-- With no mapping the translation is the identity, cached (log 2). -/
theorem addressTranslation_identity (c : Config) (v : Word) (a : Access) (h : c.mappings = []) :
    addressTranslation c v a = .ok (PAddr.mk (v.toNat / 4) (lowBits v), false) := by
  simp [addressTranslation, h, findMapping]

/-- The identity translation names the byte of the same number. -/
theorem identity_toNat (v : Word) : (PAddr.mk (v.toNat / 4) (lowBits v)).toNat = v.toNat := by
  simp [PAddr.toNat, lowBits, BitVec.extractLsb'_toNat]
  omega

/-! ## LoadMemory and StoreMemory -/

/-- Everything LoadMemory can do (20_memory.md R33, R53). -/
theorem State.loadMemory_eq (s : State) (u : Bool) (t : AccessType) (p : PAddr) (a : Access) :
    (busErrorAt s.cfg p.toNat = true ∧ s.loadMemory u t p a = .error (.bus a)) ∨
    (busErrorAt s.cfg p.toNat = false ∧
      s.loadMemory u t p a = .ok (memoryLanes s.cfg.bigEndianMem s.mem p.frame)) := by
  cases h : busErrorAt s.cfg p.toNat <;> simp [State.loadMemory, h]

/-- Everything StoreMemory can do (20_memory.md R34, R53). -/
theorem State.storeMemory_eq (s : State) (u : Bool) (t : AccessType) (d : Word) (p : PAddr) (a : Access) :
    (busErrorAt s.cfg p.toNat = true ∧ s.storeMemory u t d p a = .error (.bus a)) ∨
    (busErrorAt s.cfg p.toNat = false ∧ s.storeMemory u t d p a = .ok (s.putLanes t d p)) := by
  cases h : busErrorAt s.cfg p.toNat <;> simp [State.storeMemory, h]

/-! ## The bytes a store changes -/

@[simp] theorem State.putLane_regs (s : State) (t : AccessType) (d : Word) (p : PAddr) (k : BitVec 2) : (s.putLane t d p k).regs = s.regs := by
  unfold State.putLane; split <;> rfl

@[simp] theorem State.putLane_pc (s : State) (t : AccessType) (d : Word) (p : PAddr) (k : BitVec 2) : (s.putLane t d p k).pc = s.pc := by
  unfold State.putLane; split <;> rfl

@[simp] theorem State.putLane_npc (s : State) (t : AccessType) (d : Word) (p : PAddr) (k : BitVec 2) : (s.putLane t d p k).npc = s.npc := by
  unfold State.putLane; split <;> rfl

@[simp] theorem State.putLane_inDelay (s : State) (t : AccessType) (d : Word) (p : PAddr) (k : BitVec 2) : (s.putLane t d p k).inDelay = s.inDelay := by
  unfold State.putLane; split <;> rfl

@[simp] theorem State.putLane_pending (s : State) (t : AccessType) (d : Word) (p : PAddr) (k : BitVec 2) : (s.putLane t d p k).pending = s.pending := by
  unfold State.putLane; split <;> rfl

@[simp] theorem State.putLane_hi (s : State) (t : AccessType) (d : Word) (p : PAddr) (k : BitVec 2) : (s.putLane t d p k).hi = s.hi := by
  unfold State.putLane; split <;> rfl

@[simp] theorem State.putLane_lo (s : State) (t : AccessType) (d : Word) (p : PAddr) (k : BitVec 2) : (s.putLane t d p k).lo = s.lo := by
  unfold State.putLane; split <;> rfl

@[simp] theorem State.putLane_llBit (s : State) (t : AccessType) (d : Word) (p : PAddr) (k : BitVec 2) : (s.putLane t d p k).llBit = s.llBit := by
  unfold State.putLane; split <;> rfl

@[simp] theorem State.putLane_sr (s : State) (t : AccessType) (d : Word) (p : PAddr) (k : BitVec 2) : (s.putLane t d p k).sr = s.sr := by
  unfold State.putLane; split <;> rfl

@[simp] theorem State.putLane_mode (s : State) (t : AccessType) (d : Word) (p : PAddr) (k : BitVec 2) : (s.putLane t d p k).mode = s.mode := by
  unfold State.putLane; split <;> rfl

@[simp] theorem State.putLane_epc (s : State) (t : AccessType) (d : Word) (p : PAddr) (k : BitVec 2) : (s.putLane t d p k).epc = s.epc := by
  unfold State.putLane; split <;> rfl

@[simp] theorem State.putLane_cop (s : State) (t : AccessType) (d : Word) (p : PAddr) (k : BitVec 2) : (s.putLane t d p k).cop = s.cop := by
  unfold State.putLane; split <;> rfl

@[simp] theorem State.putLane_raised (s : State) (t : AccessType) (d : Word) (p : PAddr) (k : BitVec 2) : (s.putLane t d p k).raised = s.raised := by
  unfold State.putLane; split <;> rfl

@[simp] theorem State.putLane_freeCount (s : State) (t : AccessType) (d : Word) (p : PAddr) (k : BitVec 2) : (s.putLane t d p k).freeCount = s.freeCount := by
  unfold State.putLane; split <;> rfl

@[simp] theorem State.putLane_cfg (s : State) (t : AccessType) (d : Word) (p : PAddr) (k : BitVec 2) : (s.putLane t d p k).cfg = s.cfg := by
  unfold State.putLane; split <;> rfl

@[simp] theorem State.putLanes_regs (s : State) (t : AccessType) (d : Word) (p : PAddr) : (s.putLanes t d p).regs = s.regs := by
  simp [State.putLanes]

@[simp] theorem State.putLanes_pc (s : State) (t : AccessType) (d : Word) (p : PAddr) : (s.putLanes t d p).pc = s.pc := by
  simp [State.putLanes]

@[simp] theorem State.putLanes_npc (s : State) (t : AccessType) (d : Word) (p : PAddr) : (s.putLanes t d p).npc = s.npc := by
  simp [State.putLanes]

@[simp] theorem State.putLanes_inDelay (s : State) (t : AccessType) (d : Word) (p : PAddr) : (s.putLanes t d p).inDelay = s.inDelay := by
  simp [State.putLanes]

@[simp] theorem State.putLanes_pending (s : State) (t : AccessType) (d : Word) (p : PAddr) : (s.putLanes t d p).pending = s.pending := by
  simp [State.putLanes]

@[simp] theorem State.putLanes_hi (s : State) (t : AccessType) (d : Word) (p : PAddr) : (s.putLanes t d p).hi = s.hi := by
  simp [State.putLanes]

@[simp] theorem State.putLanes_lo (s : State) (t : AccessType) (d : Word) (p : PAddr) : (s.putLanes t d p).lo = s.lo := by
  simp [State.putLanes]

@[simp] theorem State.putLanes_llBit (s : State) (t : AccessType) (d : Word) (p : PAddr) : (s.putLanes t d p).llBit = s.llBit := by
  simp [State.putLanes]

@[simp] theorem State.putLanes_sr (s : State) (t : AccessType) (d : Word) (p : PAddr) : (s.putLanes t d p).sr = s.sr := by
  simp [State.putLanes]

@[simp] theorem State.putLanes_mode (s : State) (t : AccessType) (d : Word) (p : PAddr) : (s.putLanes t d p).mode = s.mode := by
  simp [State.putLanes]

@[simp] theorem State.putLanes_epc (s : State) (t : AccessType) (d : Word) (p : PAddr) : (s.putLanes t d p).epc = s.epc := by
  simp [State.putLanes]

@[simp] theorem State.putLanes_cop (s : State) (t : AccessType) (d : Word) (p : PAddr) : (s.putLanes t d p).cop = s.cop := by
  simp [State.putLanes]

@[simp] theorem State.putLanes_raised (s : State) (t : AccessType) (d : Word) (p : PAddr) : (s.putLanes t d p).raised = s.raised := by
  simp [State.putLanes]

@[simp] theorem State.putLanes_freeCount (s : State) (t : AccessType) (d : Word) (p : PAddr) : (s.putLanes t d p).freeCount = s.freeCount := by
  simp [State.putLanes]

@[simp] theorem State.putLanes_cfg (s : State) (t : AccessType) (d : Word) (p : PAddr) : (s.putLanes t d p).cfg = s.cfg := by
  simp [State.putLanes]

@[simp] theorem State.readGpr_putLanes (s : State) (t : AccessType) (d : Word) (p : PAddr) (r : Reg) :
    (s.putLanes t d p).readGpr r = s.readGpr r :=
  State.readGpr_congr _ _ (by simp) r

/-- One offset of the word: the byte it covers receives its lane, every other byte reads as before (20_memory.md
R34). -/
theorem State.read_putLane (s : State) (t : AccessType) (d : Word) (p : PAddr) (k : BitVec 2) (a : Nat) :
    (s.putLane t d p k).mem.read a =
      if coversOffset p t k = true ∧ a = 4 * p.frame + k.toNat then dataLane d (laneOf s.cfg.bigEndianMem k)
      else s.mem.read a := by
  unfold State.putLane
  cases h : coversOffset p t k <;> simp [Memory.read_write]

/-- A byte outside the memory word reads as before (20_memory.md R34). -/
theorem State.read_putLanes_outside (s : State) (t : AccessType) (d : Word) (p : PAddr) (a : Nat)
    (h : a / 4 ≠ p.frame) : (s.putLanes t d p).mem.read a = s.mem.read a := by
  have h0 : ∀ k : BitVec 2, a ≠ 4 * p.frame + k.toNat := by intro k e; have := k.isLt; omega
  simp only [State.putLanes, State.read_putLane, h0, and_false, if_false]

/-- The byte at offset `k` of the memory word after StoreMemory: its lane of the data if the access covers it, its old
content otherwise (20_memory.md R34). -/
theorem State.read_putLanes (s : State) (t : AccessType) (d : Word) (p : PAddr) (k : BitVec 2) :
    (s.putLanes t d p).mem.read (4 * p.frame + k.toNat) =
      if coversOffset p t k then dataLane d (laneOf s.cfg.bigEndianMem k) else s.mem.read (4 * p.frame + k.toNat) := by
  have hk : ∀ j : BitVec 2, 4 * p.frame + k.toNat = 4 * p.frame + j.toNat ↔ k = j := by
    intro j
    constructor
    · intro e; exact BitVec.eq_of_toNat_eq (by omega)
    · rintro rfl; rfl
  simp only [State.putLanes, State.read_putLane, State.putLane_cfg, hk]
  rcases bitVec2_cases k with rfl | rfl | rfl | rfl <;> simp

theorem State.wf_putLane (s : State) (t : AccessType) (d : Word) (p : PAddr) (k : BitVec 2)
    (h : s.mem.wf = true ∧ addressesWf s.written = true) :
    (s.putLane t d p k).mem.wf = true ∧ addressesWf (s.putLane t d p k).written = true := by
  unfold State.putLane
  split
  · exact ⟨Memory.wf_write _ _ _ h.1, addressesWf_mark _ _ h.2⟩
  · exact h

/-- StoreMemory keeps memory and the record of written addresses canonical. -/
theorem State.wf_putLanes (s : State) (t : AccessType) (d : Word) (p : PAddr)
    (h : s.mem.wf = true ∧ addressesWf s.written = true) :
    (s.putLanes t d p).mem.wf = true ∧ addressesWf (s.putLanes t d p).written = true :=
  State.wf_putLane _ _ _ _ _ (State.wf_putLane _ _ _ _ _ (State.wf_putLane _ _ _ _ _ (State.wf_putLane _ _ _ _ _ h)))

/-! ## The common sequences -/

/-- Everything the sequence of a load can do (40_load_store.md R101). -/
theorem State.loadLanes_ok (s : State) (mask : BitVec 2) (t : AccessType) (place : PAddr → PAddr) (v : Word)
    (m : Lanes) (h : s.loadLanes mask t place v = .ok m) :
    ∃ p u, alignedTo mask v = true ∧ addressTranslation s.cfg v .load = .ok (p, u) ∧
      busErrorAt s.cfg (place p).toNat = false ∧ m = memoryLanes s.cfg.bigEndianMem s.mem (place p).frame := by
  unfold State.loadLanes at h
  split at h
  · split at h
    · cases h
    · rename_i p u ht
      rcases s.loadMemory_eq u t (place p) .load with ⟨_, e⟩ | ⟨hb, e⟩
      · rw [e] at h; cases h
      · rw [e] at h; cases h; exact ⟨p, u, ‹_›, ht, hb, rfl⟩
  · cases h

/-- Everything the sequence of a store can do (40_load_store.md R102). -/
theorem State.storeLanes_ok (s t : State) (mask : BitVec 2) (ty : AccessType) (place : PAddr → PAddr) (v : Word)
    (d : Word) (h : s.storeLanes mask ty place v d = .ok t) :
    ∃ p u, s.storeAddress mask place v = .ok (p, u) ∧ busErrorAt s.cfg p.toNat = false ∧ t = s.putLanes ty d p := by
  unfold State.storeLanes at h
  split at h
  · cases h
  · rename_i p u ha
    rcases s.storeMemory_eq u ty d p .store with ⟨_, e⟩ | ⟨hb, e⟩
    · rw [e] at h; cases h
    · rw [e] at h; cases h; exact ⟨p, u, ha, hb, rfl⟩

/-- What a load leaves when it goes on: an exception, or the loaded value on its way to `rt`. -/
theorem State.finishLanes_next (s t : State) (rt : Reg) (r : Except Raise Lanes) (value : Lanes → Word)
    (h : s.finishLanes rt r value = .next t) :
    (∃ e, r = .error e ∧ t = s.withException e) ∨ (∃ m, r = .ok m ∧ t = (s.writeLoaded rt (value m)).advance) := by
  unfold State.finishLanes at h
  split at h
  · exact Or.inl ⟨_, rfl, s.takeException_next t _ h⟩
  · exact Or.inr ⟨_, rfl, s.finishLoad_next t _ _ h⟩

/-- What a store leaves when it goes on: an exception, or the store made. -/
theorem State.finishStore_next (s t : State) (r : Except Raise State) (h : s.finishStore r = .next t) :
    (∃ e, r = .error e ∧ t = s.withException e) ∨ (∃ u, r = .ok u ∧ t = u.commitPending.advance) := by
  unfold State.finishStore at h
  split at h
  · exact Or.inl ⟨_, rfl, s.takeException_next t _ h⟩
  · cases h; exact Or.inr ⟨_, rfl, rfl⟩

end Sys2Proof.Machine
end

