-- ==== Sys2Proof/Laws/CopForm.lean ====
section
/-! SUPPORT. The selection inside a COPz word (43_coprocessor.md R191): how its bits split into fields, and the marks its
cells can carry. -/

namespace Sys2Proof

/-- Consecutive bits of a word, split in two at any place. -/
theorem extract_append {w : Nat} (x : BitVec w) (start high low : Nat) :
    x.extractLsb' (start + low) high ++ x.extractLsb' start low = x.extractLsb' start (high + low) := by
  apply BitVec.eq_of_getLsbD_eq
  intro i hi
  simp only [BitVec.getLsbD_append, BitVec.getLsbD_extractLsb']
  by_cases h : i < low
  · simp [h, hi]
  · simp only [h, if_false, decide_false, hi, decide_true, Bool.true_and, show i - low < high by omega]
    congr 1
    omega

/-- Bits 25..0 of a COPz word are its `rs` field and 21 bits more. -/
theorem copRest_split (rest : BitVec 26) : rest.extractLsb' 21 5 ++ rest.extractLsb' 0 21 = rest :=
  (extract_append rest 0 5 21).trans BitVec.extractLsb'_eq_self

/-- The 21 bits below `rs` are the `rt` field and 16 bits more. -/
theorem copLow_split (low : BitVec 21) : low.extractLsb' 16 5 ++ low.extractLsb' 0 16 = low :=
  (extract_append low 0 5 16).trans BitVec.extractLsb'_eq_self

theorem append_assoc_fields (x y : BitVec 5) (z : BitVec 16) : (x ++ y ++ z : BitVec 26) = x ++ (y ++ z : BitVec 21) := by
  apply BitVec.eq_of_getLsbD_eq
  intro i hi
  change (x ++ y ++ z : BitVec (5 + 5 + 16)).getLsbD i = (x ++ (y ++ z) : BitVec (5 + (5 + 16))).getLsbD i
  simp only [BitVec.getLsbD_append]
  by_cases h1 : i < 16
  · have h2 : i < 5 + 16 := by omega
    simp [h1, h2]
  · by_cases h2 : i < 21
    · have : i - 16 < 5 := by omega
      simp [h1, h2, this]
    · have : ¬ (i - 16 < 5) := by omega
      simp only [h1, h2, this, if_false]
      congr 1

/-- What the `rt` table reads, written back. -/
theorem copRest_copBranchForm (rt : Reg) (low : BitVec 16) :
    copRest (copBranchForm rt low) = 0b01000#5 ++ rt ++ low := by
  unfold copBranchForm
  split <;> rfl

/-- What the `rs` table reads, written back. -/
theorem copRest_copMoveForm (rs : Reg) (low : BitVec 21) : copRest (copMoveForm rs low) = rs ++ low := by
  unfold copMoveForm
  split
  case h_5 =>
    rw [copRest_copBranchForm, append_assoc_fields, copLow_split]
  all_goals rfl

/-- No COPz cell carries the mark alpha: no COPz word raises Reserved Instruction. -/
theorem CopForm.mark_ne_alpha (f : CopForm) : f.mark ≠ .alpha := by
  cases f <;> simp [CopForm.mark]

end Sys2Proof
end

