-- ==== Sys2Proof/Laws/Encoding.lean ====
section
/-! SUPPORT. What each field of an encoded word reads (30_encoding.md R61), once per format: the lemmas a round trip of
decoding and encoding cites. -/

namespace Sys2Proof

@[simp] theorem opField_encodeR (op : BitVec 6) (rs rt rd : Reg) (sa : BitVec 5) (function : BitVec 6) :
    opField (encodeR op rs rt rd sa function) = op := by
  change BitVec.extractLsb' 26 6 (op ++ rs ++ rt ++ rd ++ sa ++ function : BitVec (6+5+5+5+5+6)) = op
  rw [BitVec.extractLsb'_append_eq_of_le (by decide), BitVec.extractLsb'_append_eq_of_le (by decide), BitVec.extractLsb'_append_eq_of_le (by decide), BitVec.extractLsb'_append_eq_of_le (by decide)]
  exact BitVec.extractLsb'_append_eq_left

@[simp] theorem rsField_encodeR (op : BitVec 6) (rs rt rd : Reg) (sa : BitVec 5) (function : BitVec 6) :
    rsField (encodeR op rs rt rd sa function) = rs := by
  change BitVec.extractLsb' 21 5 (op ++ rs ++ rt ++ rd ++ sa ++ function : BitVec (6+5+5+5+5+6)) = rs
  rw [BitVec.extractLsb'_append_eq_of_le (by decide), BitVec.extractLsb'_append_eq_of_le (by decide), BitVec.extractLsb'_append_eq_of_le (by decide), BitVec.extractLsb'_append_eq_of_le (by decide)]
  exact BitVec.extractLsb'_append_eq_right

@[simp] theorem rtField_encodeR (op : BitVec 6) (rs rt rd : Reg) (sa : BitVec 5) (function : BitVec 6) :
    rtField (encodeR op rs rt rd sa function) = rt := by
  change BitVec.extractLsb' 16 5 (op ++ rs ++ rt ++ rd ++ sa ++ function : BitVec (6+5+5+5+5+6)) = rt
  rw [BitVec.extractLsb'_append_eq_of_le (by decide), BitVec.extractLsb'_append_eq_of_le (by decide), BitVec.extractLsb'_append_eq_of_le (by decide)]
  exact BitVec.extractLsb'_append_eq_right

@[simp] theorem rdField_encodeR (op : BitVec 6) (rs rt rd : Reg) (sa : BitVec 5) (function : BitVec 6) :
    rdField (encodeR op rs rt rd sa function) = rd := by
  change BitVec.extractLsb' 11 5 (op ++ rs ++ rt ++ rd ++ sa ++ function : BitVec (6+5+5+5+5+6)) = rd
  rw [BitVec.extractLsb'_append_eq_of_le (by decide), BitVec.extractLsb'_append_eq_of_le (by decide)]
  exact BitVec.extractLsb'_append_eq_right

@[simp] theorem saField_encodeR (op : BitVec 6) (rs rt rd : Reg) (sa : BitVec 5) (function : BitVec 6) :
    saField (encodeR op rs rt rd sa function) = sa := by
  change BitVec.extractLsb' 6 5 (op ++ rs ++ rt ++ rd ++ sa ++ function : BitVec (6+5+5+5+5+6)) = sa
  rw [BitVec.extractLsb'_append_eq_of_le (by decide)]
  exact BitVec.extractLsb'_append_eq_right

@[simp] theorem functionField_encodeR (op : BitVec 6) (rs rt rd : Reg) (sa : BitVec 5) (function : BitVec 6) :
    functionField (encodeR op rs rt rd sa function) = function := by
  change BitVec.extractLsb' 0 6 (op ++ rs ++ rt ++ rd ++ sa ++ function : BitVec (6+5+5+5+5+6)) = function
  exact BitVec.extractLsb'_append_eq_right

@[simp] theorem opField_encodeI (op : BitVec 6) (rs rt : Reg) (immediate : BitVec 16) :
    opField (encodeI op rs rt immediate) = op := by
  change BitVec.extractLsb' 26 6 (op ++ rs ++ rt ++ immediate : BitVec (6+5+5+16)) = op
  rw [BitVec.extractLsb'_append_eq_of_le (by decide), BitVec.extractLsb'_append_eq_of_le (by decide)]
  exact BitVec.extractLsb'_append_eq_left

@[simp] theorem rsField_encodeI (op : BitVec 6) (rs rt : Reg) (immediate : BitVec 16) :
    rsField (encodeI op rs rt immediate) = rs := by
  change BitVec.extractLsb' 21 5 (op ++ rs ++ rt ++ immediate : BitVec (6+5+5+16)) = rs
  rw [BitVec.extractLsb'_append_eq_of_le (by decide), BitVec.extractLsb'_append_eq_of_le (by decide)]
  exact BitVec.extractLsb'_append_eq_right

@[simp] theorem rtField_encodeI (op : BitVec 6) (rs rt : Reg) (immediate : BitVec 16) :
    rtField (encodeI op rs rt immediate) = rt := by
  change BitVec.extractLsb' 16 5 (op ++ rs ++ rt ++ immediate : BitVec (6+5+5+16)) = rt
  rw [BitVec.extractLsb'_append_eq_of_le (by decide)]
  exact BitVec.extractLsb'_append_eq_right

@[simp] theorem immField_encodeI (op : BitVec 6) (rs rt : Reg) (immediate : BitVec 16) :
    immField (encodeI op rs rt immediate) = immediate := by
  change BitVec.extractLsb' 0 16 (op ++ rs ++ rt ++ immediate : BitVec (6+5+5+16)) = immediate
  exact BitVec.extractLsb'_append_eq_right

@[simp] theorem opField_encodeJ (op : BitVec 6) (target : BitVec 26) :
    opField (encodeJ op target) = op := by
  change BitVec.extractLsb' 26 6 (op ++ target : BitVec (6+26)) = op
  exact BitVec.extractLsb'_append_eq_left

@[simp] theorem targetField_encodeJ (op : BitVec 6) (target : BitVec 26) :
    targetField (encodeJ op target) = target := by
  change BitVec.extractLsb' 0 26 (op ++ target : BitVec (6+26)) = target
  exact BitVec.extractLsb'_append_eq_right

@[simp] theorem opField_encodeCode (code : BitVec 20) (function : BitVec 6) :
    opField (encodeCode code function) = 0b000000#6 := by
  change BitVec.extractLsb' 26 6 (0b000000#6 ++ code ++ function : BitVec (6+20+6)) = 0b000000#6
  rw [BitVec.extractLsb'_append_eq_of_le (by decide)]
  exact BitVec.extractLsb'_append_eq_left

@[simp] theorem codeField_encodeCode (code : BitVec 20) (function : BitVec 6) :
    codeField (encodeCode code function) = code := by
  change BitVec.extractLsb' 6 20 (0b000000#6 ++ code ++ function : BitVec (6+20+6)) = code
  rw [BitVec.extractLsb'_append_eq_of_le (by decide)]
  exact BitVec.extractLsb'_append_eq_right

@[simp] theorem functionField_encodeCode (code : BitVec 20) (function : BitVec 6) :
    functionField (encodeCode code function) = function := by
  change BitVec.extractLsb' 0 6 (0b000000#6 ++ code ++ function : BitVec (6+20+6)) = function
  exact BitVec.extractLsb'_append_eq_right

end Sys2Proof
end

