-- ==== Sys2Proof/Laws/PerInstr.lean ====
section
/-! SUPPORT. The encodings of spec/opcode_table.json (30_encoding.md R67, R68), `match` and `mask`, and the statement
that the encoder writes every instruction's word inside its row. -/

namespace Sys2Proof.Laws

/-- The `mask` of the instruction's row. -/
def tableMask (i : Instr) : Word :=
  match i with
  | .add _ _ _ => 0xFC0007FF#32
  | .addi _ _ _ => 0xFC000000#32
  | .addiu _ _ _ => 0xFC000000#32
  | .addu _ _ _ => 0xFC0007FF#32
  | .and _ _ _ => 0xFC0007FF#32
  | .andi _ _ _ => 0xFC000000#32
  | .beq _ _ _ => 0xFC000000#32
  | .bne _ _ _ => 0xFC000000#32
  | .brk _ => 0xFC00003F#32
  | .j _ => 0xFC000000#32
  | .jal _ => 0xFC000000#32
  | .jalr _ _ => 0xFC1F07FF#32
  | .jr _ => 0xFC1FFFFF#32
  | .lb _ _ _ => 0xFC000000#32
  | .lbu _ _ _ => 0xFC000000#32
  | .lh _ _ _ => 0xFC000000#32
  | .lhu _ _ _ => 0xFC000000#32
  | .lui _ _ => 0xFFE00000#32
  | .lw _ _ _ => 0xFC000000#32
  | .lwl _ _ _ => 0xFC000000#32
  | .lwr _ _ _ => 0xFC000000#32
  | .nor _ _ _ => 0xFC0007FF#32
  | .or _ _ _ => 0xFC0007FF#32
  | .ori _ _ _ => 0xFC000000#32
  | .sb _ _ _ => 0xFC000000#32
  | .sh _ _ _ => 0xFC000000#32
  | .sll _ _ _ => 0xFFE0003F#32
  | .sllv _ _ _ => 0xFC0007FF#32
  | .slt _ _ _ => 0xFC0007FF#32
  | .slti _ _ _ => 0xFC000000#32
  | .sltiu _ _ _ => 0xFC000000#32
  | .sltu _ _ _ => 0xFC0007FF#32
  | .sra _ _ _ => 0xFFE0003F#32
  | .srav _ _ _ => 0xFC0007FF#32
  | .srl _ _ _ => 0xFFE0003F#32
  | .srlv _ _ _ => 0xFC0007FF#32
  | .sub _ _ _ => 0xFC0007FF#32
  | .subu _ _ _ => 0xFC0007FF#32
  | .sw _ _ _ => 0xFC000000#32
  | .swl _ _ _ => 0xFC000000#32
  | .swr _ _ _ => 0xFC000000#32
  | .xor _ _ _ => 0xFC0007FF#32
  | .xori _ _ _ => 0xFC000000#32
  | .blez _ => 0xFC000000#32
  | .cop0 _ => 0xFC000000#32
  | .cop1 _ => 0xFC000000#32
  | .cop2 _ => 0xFC000000#32
  | .cop3 _ => 0xFC000000#32
  | .beql _ => 0xFC000000#32
  | .bnel _ => 0xFC000000#32
  | .blezl _ => 0xFC000000#32
  | .ll _ => 0xFC000000#32
  | .lwc1 _ => 0xFC000000#32
  | .lwc2 _ => 0xFC000000#32
  | .lwc3 _ => 0xFC000000#32
  | .ldc1 _ => 0xFC000000#32
  | .ldc2 _ => 0xFC000000#32
  | .sc _ => 0xFC000000#32
  | .swc1 _ => 0xFC000000#32
  | .swc2 _ => 0xFC000000#32
  | .swc3 _ => 0xFC000000#32
  | .sdc1 _ => 0xFC000000#32
  | .sdc2 _ => 0xFC000000#32
  | .syscall _ => 0xFC00003F#32
  | .mfhi _ => 0xFC00003F#32
  | .mthi _ => 0xFC00003F#32
  | .mflo _ => 0xFC00003F#32
  | .mtlo _ => 0xFC00003F#32
  | .mult _ => 0xFC00003F#32
  | .multu _ => 0xFC00003F#32
  | .div _ => 0xFC00003F#32
  | .divu _ => 0xFC00003F#32
  | .tge _ => 0xFC00003F#32
  | .tgeu _ => 0xFC00003F#32
  | .tlt _ => 0xFC00003F#32
  | .tltu _ => 0xFC00003F#32
  | .teq _ => 0xFC00003F#32
  | .tne _ => 0xFC00003F#32
  | .bltz _ _ => 0xFC1F0000#32
  | .bgez _ _ => 0xFC1F0000#32
  | .bltzal _ _ => 0xFC1F0000#32
  | .bgezal _ _ => 0xFC1F0000#32
  | .bltzl _ _ => 0xFC1F0000#32
  | .bgezl _ _ => 0xFC1F0000#32
  | .tgei _ _ => 0xFC1F0000#32
  | .teqi _ _ => 0xFC1F0000#32
  | .tnei _ _ => 0xFC1F0000#32
  | .bltzall _ _ => 0xFC1F0000#32
  | .bgezall _ _ => 0xFC1F0000#32
  | .tgeiu _ _ => 0xFC1F0000#32
  | .tlti _ _ => 0xFC1F0000#32
  | .tltiu _ _ => 0xFC1F0000#32

/-- The `match` of the instruction's row. -/
def tableMatch (i : Instr) : Word :=
  match i with
  | .add _ _ _ => 0x00000020#32
  | .addi _ _ _ => 0x20000000#32
  | .addiu _ _ _ => 0x24000000#32
  | .addu _ _ _ => 0x00000021#32
  | .and _ _ _ => 0x00000024#32
  | .andi _ _ _ => 0x30000000#32
  | .beq _ _ _ => 0x10000000#32
  | .bne _ _ _ => 0x14000000#32
  | .brk _ => 0x0000000D#32
  | .j _ => 0x08000000#32
  | .jal _ => 0x0C000000#32
  | .jalr _ _ => 0x00000009#32
  | .jr _ => 0x00000008#32
  | .lb _ _ _ => 0x80000000#32
  | .lbu _ _ _ => 0x90000000#32
  | .lh _ _ _ => 0x84000000#32
  | .lhu _ _ _ => 0x94000000#32
  | .lui _ _ => 0x3C000000#32
  | .lw _ _ _ => 0x8C000000#32
  | .lwl _ _ _ => 0x88000000#32
  | .lwr _ _ _ => 0x98000000#32
  | .nor _ _ _ => 0x00000027#32
  | .or _ _ _ => 0x00000025#32
  | .ori _ _ _ => 0x34000000#32
  | .sb _ _ _ => 0xA0000000#32
  | .sh _ _ _ => 0xA4000000#32
  | .sll _ _ _ => 0x00000000#32
  | .sllv _ _ _ => 0x00000004#32
  | .slt _ _ _ => 0x0000002A#32
  | .slti _ _ _ => 0x28000000#32
  | .sltiu _ _ _ => 0x2C000000#32
  | .sltu _ _ _ => 0x0000002B#32
  | .sra _ _ _ => 0x00000003#32
  | .srav _ _ _ => 0x00000007#32
  | .srl _ _ _ => 0x00000002#32
  | .srlv _ _ _ => 0x00000006#32
  | .sub _ _ _ => 0x00000022#32
  | .subu _ _ _ => 0x00000023#32
  | .sw _ _ _ => 0xAC000000#32
  | .swl _ _ _ => 0xA8000000#32
  | .swr _ _ _ => 0xB8000000#32
  | .xor _ _ _ => 0x00000026#32
  | .xori _ _ _ => 0x38000000#32
  | .blez _ => 0x18000000#32
  | .cop0 _ => 0x40000000#32
  | .cop1 _ => 0x44000000#32
  | .cop2 _ => 0x48000000#32
  | .cop3 _ => 0x4C000000#32
  | .beql _ => 0x50000000#32
  | .bnel _ => 0x54000000#32
  | .blezl _ => 0x58000000#32
  | .ll _ => 0xC0000000#32
  | .lwc1 _ => 0xC4000000#32
  | .lwc2 _ => 0xC8000000#32
  | .lwc3 _ => 0xCC000000#32
  | .ldc1 _ => 0xD4000000#32
  | .ldc2 _ => 0xD8000000#32
  | .sc _ => 0xE0000000#32
  | .swc1 _ => 0xE4000000#32
  | .swc2 _ => 0xE8000000#32
  | .swc3 _ => 0xEC000000#32
  | .sdc1 _ => 0xF4000000#32
  | .sdc2 _ => 0xF8000000#32
  | .syscall _ => 0x0000000C#32
  | .mfhi _ => 0x00000010#32
  | .mthi _ => 0x00000011#32
  | .mflo _ => 0x00000012#32
  | .mtlo _ => 0x00000013#32
  | .mult _ => 0x00000018#32
  | .multu _ => 0x00000019#32
  | .div _ => 0x0000001A#32
  | .divu _ => 0x0000001B#32
  | .tge _ => 0x00000030#32
  | .tgeu _ => 0x00000031#32
  | .tlt _ => 0x00000032#32
  | .tltu _ => 0x00000033#32
  | .teq _ => 0x00000034#32
  | .tne _ => 0x00000036#32
  | .bltz _ _ => 0x04000000#32
  | .bgez _ _ => 0x04010000#32
  | .bltzal _ _ => 0x04100000#32
  | .bgezal _ _ => 0x04110000#32
  | .bltzl _ _ => 0x04020000#32
  | .bgezl _ _ => 0x04030000#32
  | .tgei _ _ => 0x04080000#32
  | .teqi _ _ => 0x040C0000#32
  | .tnei _ _ => 0x040E0000#32
  | .bltzall _ _ => 0x04120000#32
  | .bgezall _ _ => 0x04130000#32
  | .tgeiu _ _ => 0x04090000#32
  | .tlti _ _ => 0x040A0000#32
  | .tltiu _ _ => 0x040B0000#32

/-- The bitwise and of two R-type words is taken field by field. -/
theorem encodeR_and (op op' : BitVec 6) (rs rs' rt rt' rd rd' : Reg) (sa sa' : BitVec 5) (f f' : BitVec 6) :
    encodeR op rs rt rd sa f &&& encodeR op' rs' rt' rd' sa' f' =
      encodeR (op &&& op') (rs &&& rs') (rt &&& rt') (rd &&& rd') (sa &&& sa') (f &&& f') := by
  change (op ++ rs ++ rt ++ rd ++ sa ++ f : BitVec (6+5+5+5+5+6)) &&&
    (op' ++ rs' ++ rt' ++ rd' ++ sa' ++ f' : BitVec (6+5+5+5+5+6)) = _
  simp only [BitVec.and_append]
  rfl

/-- The bitwise and of two I-type words is taken field by field. -/
theorem encodeI_and (op op' : BitVec 6) (rs rs' rt rt' : Reg) (imm imm' : BitVec 16) :
    encodeI op rs rt imm &&& encodeI op' rs' rt' imm' =
      encodeI (op &&& op') (rs &&& rs') (rt &&& rt') (imm &&& imm') := by
  change (op ++ rs ++ rt ++ imm : BitVec (6+5+5+16)) &&& (op' ++ rs' ++ rt' ++ imm' : BitVec (6+5+5+16)) = _
  simp only [BitVec.and_append]
  rfl

/-- The bitwise and of two J-type words is taken field by field. -/
theorem encodeJ_and (op op' : BitVec 6) (t t' : BitVec 26) :
    encodeJ op t &&& encodeJ op' t' = encodeJ (op &&& op') (t &&& t') := by
  change (op ++ t : BitVec (6+26)) &&& (op' ++ t' : BitVec (6+26)) = _
  simp only [BitVec.and_append]
  rfl

/-- The mask of a SPECIAL row takes the `op` and `function` fields of the word. -/
theorem encodeCode_and (c : BitVec 20) (f : BitVec 6) :
    encodeCode c f &&& 0xFC00003F#32 = encodeCode 0#20 f := by
  have h : (0b000000#6 ++ c ++ f : BitVec (6+20+6)) &&& (63#6 ++ 0#20 ++ 63#6 : BitVec (6+20+6)) =
      (0b000000#6 ++ 0#20 ++ f : BitVec (6+20+6)) := by
    simp only [BitVec.and_append, BitVec.and_zero, BitVec.zero_and]
    congr 1
    exact BitVec.and_allOnes
  exact h

/-- The instruction's word lies in its row: `w and mask = match` (30_encoding.md R67). -/
def TablePattern.Statement (i : Instr) : Prop := encode i &&& tableMask i = tableMatch i

theorem TablePattern.add (rd rs rt : Reg) : TablePattern.Statement (.add rd rs rt) := by
  refine (encodeR_and _ 63#6 _ 0#5 _ 0#5 _ 0#5 _ 31#5 _ 63#6).trans ?_
  simp only [BitVec.and_zero]
  rfl

theorem TablePattern.addi (rt rs : Reg) (imm : BitVec 16) : TablePattern.Statement (.addi rt rs imm) := by
  refine (encodeI_and _ 63#6 _ 0#5 _ 0#5 _ 0#16).trans ?_
  simp only [BitVec.and_zero]
  rfl

theorem TablePattern.addiu (rt rs : Reg) (imm : BitVec 16) : TablePattern.Statement (.addiu rt rs imm) := by
  refine (encodeI_and _ 63#6 _ 0#5 _ 0#5 _ 0#16).trans ?_
  simp only [BitVec.and_zero]
  rfl

theorem TablePattern.addu (rd rs rt : Reg) : TablePattern.Statement (.addu rd rs rt) := by
  refine (encodeR_and _ 63#6 _ 0#5 _ 0#5 _ 0#5 _ 31#5 _ 63#6).trans ?_
  simp only [BitVec.and_zero]
  rfl

theorem TablePattern.and (rd rs rt : Reg) : TablePattern.Statement (.and rd rs rt) := by
  refine (encodeR_and _ 63#6 _ 0#5 _ 0#5 _ 0#5 _ 31#5 _ 63#6).trans ?_
  simp only [BitVec.and_zero]
  rfl

theorem TablePattern.andi (rt rs : Reg) (imm : BitVec 16) : TablePattern.Statement (.andi rt rs imm) := by
  refine (encodeI_and _ 63#6 _ 0#5 _ 0#5 _ 0#16).trans ?_
  simp only [BitVec.and_zero]
  rfl

theorem TablePattern.beq (rs rt : Reg) (offset : BitVec 16) : TablePattern.Statement (.beq rs rt offset) := by
  refine (encodeI_and _ 63#6 _ 0#5 _ 0#5 _ 0#16).trans ?_
  simp only [BitVec.and_zero]
  rfl

theorem TablePattern.bne (rs rt : Reg) (offset : BitVec 16) : TablePattern.Statement (.bne rs rt offset) := by
  refine (encodeI_and _ 63#6 _ 0#5 _ 0#5 _ 0#16).trans ?_
  simp only [BitVec.and_zero]
  rfl

theorem TablePattern.brk (code : BitVec 20) : TablePattern.Statement (.brk code) := (encodeCode_and _ _).trans rfl

theorem TablePattern.j (target : BitVec 26) : TablePattern.Statement (.j target) := by
  refine (encodeJ_and _ 63#6 _ 0#26).trans ?_
  simp only [BitVec.and_zero]
  rfl

theorem TablePattern.jal (target : BitVec 26) : TablePattern.Statement (.jal target) := by
  refine (encodeJ_and _ 63#6 _ 0#26).trans ?_
  simp only [BitVec.and_zero]
  rfl

theorem TablePattern.jalr (rd rs : Reg) : TablePattern.Statement (.jalr rd rs) := by
  refine (encodeR_and _ 63#6 _ 0#5 _ 31#5 _ 0#5 _ 31#5 _ 63#6).trans ?_
  simp only [BitVec.and_zero]
  rfl

theorem TablePattern.jr (rs : Reg) : TablePattern.Statement (.jr rs) := by
  refine (encodeR_and _ 63#6 _ 0#5 _ 31#5 _ 31#5 _ 31#5 _ 63#6).trans ?_
  simp only [BitVec.and_zero]
  rfl

theorem TablePattern.lb (rt : Reg) (offset : BitVec 16) (base : Reg) : TablePattern.Statement (.lb rt offset base) := by
  refine (encodeI_and _ 63#6 _ 0#5 _ 0#5 _ 0#16).trans ?_
  simp only [BitVec.and_zero]
  rfl

theorem TablePattern.lbu (rt : Reg) (offset : BitVec 16) (base : Reg) : TablePattern.Statement (.lbu rt offset base) := by
  refine (encodeI_and _ 63#6 _ 0#5 _ 0#5 _ 0#16).trans ?_
  simp only [BitVec.and_zero]
  rfl

theorem TablePattern.lh (rt : Reg) (offset : BitVec 16) (base : Reg) : TablePattern.Statement (.lh rt offset base) := by
  refine (encodeI_and _ 63#6 _ 0#5 _ 0#5 _ 0#16).trans ?_
  simp only [BitVec.and_zero]
  rfl

theorem TablePattern.lhu (rt : Reg) (offset : BitVec 16) (base : Reg) : TablePattern.Statement (.lhu rt offset base) := by
  refine (encodeI_and _ 63#6 _ 0#5 _ 0#5 _ 0#16).trans ?_
  simp only [BitVec.and_zero]
  rfl

theorem TablePattern.lui (rt : Reg) (imm : BitVec 16) : TablePattern.Statement (.lui rt imm) := by
  refine (encodeI_and _ 63#6 _ 31#5 _ 0#5 _ 0#16).trans ?_
  simp only [BitVec.and_zero]
  rfl

theorem TablePattern.lw (rt : Reg) (offset : BitVec 16) (base : Reg) : TablePattern.Statement (.lw rt offset base) := by
  refine (encodeI_and _ 63#6 _ 0#5 _ 0#5 _ 0#16).trans ?_
  simp only [BitVec.and_zero]
  rfl

theorem TablePattern.lwl (rt : Reg) (offset : BitVec 16) (base : Reg) : TablePattern.Statement (.lwl rt offset base) := by
  refine (encodeI_and _ 63#6 _ 0#5 _ 0#5 _ 0#16).trans ?_
  simp only [BitVec.and_zero]
  rfl

theorem TablePattern.lwr (rt : Reg) (offset : BitVec 16) (base : Reg) : TablePattern.Statement (.lwr rt offset base) := by
  refine (encodeI_and _ 63#6 _ 0#5 _ 0#5 _ 0#16).trans ?_
  simp only [BitVec.and_zero]
  rfl

theorem TablePattern.nor (rd rs rt : Reg) : TablePattern.Statement (.nor rd rs rt) := by
  refine (encodeR_and _ 63#6 _ 0#5 _ 0#5 _ 0#5 _ 31#5 _ 63#6).trans ?_
  simp only [BitVec.and_zero]
  rfl

theorem TablePattern.or (rd rs rt : Reg) : TablePattern.Statement (.or rd rs rt) := by
  refine (encodeR_and _ 63#6 _ 0#5 _ 0#5 _ 0#5 _ 31#5 _ 63#6).trans ?_
  simp only [BitVec.and_zero]
  rfl

theorem TablePattern.ori (rt rs : Reg) (imm : BitVec 16) : TablePattern.Statement (.ori rt rs imm) := by
  refine (encodeI_and _ 63#6 _ 0#5 _ 0#5 _ 0#16).trans ?_
  simp only [BitVec.and_zero]
  rfl

theorem TablePattern.sb (rt : Reg) (offset : BitVec 16) (base : Reg) : TablePattern.Statement (.sb rt offset base) := by
  refine (encodeI_and _ 63#6 _ 0#5 _ 0#5 _ 0#16).trans ?_
  simp only [BitVec.and_zero]
  rfl

theorem TablePattern.sh (rt : Reg) (offset : BitVec 16) (base : Reg) : TablePattern.Statement (.sh rt offset base) := by
  refine (encodeI_and _ 63#6 _ 0#5 _ 0#5 _ 0#16).trans ?_
  simp only [BitVec.and_zero]
  rfl

theorem TablePattern.sll (rd rt : Reg) (sa : BitVec 5) : TablePattern.Statement (.sll rd rt sa) := by
  refine (encodeR_and _ 63#6 _ 31#5 _ 0#5 _ 0#5 _ 0#5 _ 63#6).trans ?_
  simp only [BitVec.and_zero]
  rfl

theorem TablePattern.sllv (rd rt rs : Reg) : TablePattern.Statement (.sllv rd rt rs) := by
  refine (encodeR_and _ 63#6 _ 0#5 _ 0#5 _ 0#5 _ 31#5 _ 63#6).trans ?_
  simp only [BitVec.and_zero]
  rfl

theorem TablePattern.slt (rd rs rt : Reg) : TablePattern.Statement (.slt rd rs rt) := by
  refine (encodeR_and _ 63#6 _ 0#5 _ 0#5 _ 0#5 _ 31#5 _ 63#6).trans ?_
  simp only [BitVec.and_zero]
  rfl

theorem TablePattern.slti (rt rs : Reg) (imm : BitVec 16) : TablePattern.Statement (.slti rt rs imm) := by
  refine (encodeI_and _ 63#6 _ 0#5 _ 0#5 _ 0#16).trans ?_
  simp only [BitVec.and_zero]
  rfl

theorem TablePattern.sltiu (rt rs : Reg) (imm : BitVec 16) : TablePattern.Statement (.sltiu rt rs imm) := by
  refine (encodeI_and _ 63#6 _ 0#5 _ 0#5 _ 0#16).trans ?_
  simp only [BitVec.and_zero]
  rfl

theorem TablePattern.sltu (rd rs rt : Reg) : TablePattern.Statement (.sltu rd rs rt) := by
  refine (encodeR_and _ 63#6 _ 0#5 _ 0#5 _ 0#5 _ 31#5 _ 63#6).trans ?_
  simp only [BitVec.and_zero]
  rfl

theorem TablePattern.sra (rd rt : Reg) (sa : BitVec 5) : TablePattern.Statement (.sra rd rt sa) := by
  refine (encodeR_and _ 63#6 _ 31#5 _ 0#5 _ 0#5 _ 0#5 _ 63#6).trans ?_
  simp only [BitVec.and_zero]
  rfl

theorem TablePattern.srav (rd rt rs : Reg) : TablePattern.Statement (.srav rd rt rs) := by
  refine (encodeR_and _ 63#6 _ 0#5 _ 0#5 _ 0#5 _ 31#5 _ 63#6).trans ?_
  simp only [BitVec.and_zero]
  rfl

theorem TablePattern.srl (rd rt : Reg) (sa : BitVec 5) : TablePattern.Statement (.srl rd rt sa) := by
  refine (encodeR_and _ 63#6 _ 31#5 _ 0#5 _ 0#5 _ 0#5 _ 63#6).trans ?_
  simp only [BitVec.and_zero]
  rfl

theorem TablePattern.srlv (rd rt rs : Reg) : TablePattern.Statement (.srlv rd rt rs) := by
  refine (encodeR_and _ 63#6 _ 0#5 _ 0#5 _ 0#5 _ 31#5 _ 63#6).trans ?_
  simp only [BitVec.and_zero]
  rfl

theorem TablePattern.sub (rd rs rt : Reg) : TablePattern.Statement (.sub rd rs rt) := by
  refine (encodeR_and _ 63#6 _ 0#5 _ 0#5 _ 0#5 _ 31#5 _ 63#6).trans ?_
  simp only [BitVec.and_zero]
  rfl

theorem TablePattern.subu (rd rs rt : Reg) : TablePattern.Statement (.subu rd rs rt) := by
  refine (encodeR_and _ 63#6 _ 0#5 _ 0#5 _ 0#5 _ 31#5 _ 63#6).trans ?_
  simp only [BitVec.and_zero]
  rfl

theorem TablePattern.sw (rt : Reg) (offset : BitVec 16) (base : Reg) : TablePattern.Statement (.sw rt offset base) := by
  refine (encodeI_and _ 63#6 _ 0#5 _ 0#5 _ 0#16).trans ?_
  simp only [BitVec.and_zero]
  rfl

theorem TablePattern.swl (rt : Reg) (offset : BitVec 16) (base : Reg) : TablePattern.Statement (.swl rt offset base) := by
  refine (encodeI_and _ 63#6 _ 0#5 _ 0#5 _ 0#16).trans ?_
  simp only [BitVec.and_zero]
  rfl

theorem TablePattern.swr (rt : Reg) (offset : BitVec 16) (base : Reg) : TablePattern.Statement (.swr rt offset base) := by
  refine (encodeI_and _ 63#6 _ 0#5 _ 0#5 _ 0#16).trans ?_
  simp only [BitVec.and_zero]
  rfl

theorem TablePattern.xor (rd rs rt : Reg) : TablePattern.Statement (.xor rd rs rt) := by
  refine (encodeR_and _ 63#6 _ 0#5 _ 0#5 _ 0#5 _ 31#5 _ 63#6).trans ?_
  simp only [BitVec.and_zero]
  rfl

theorem TablePattern.xori (rt rs : Reg) (imm : BitVec 16) : TablePattern.Statement (.xori rt rs imm) := by
  refine (encodeI_and _ 63#6 _ 0#5 _ 0#5 _ 0#16).trans ?_
  simp only [BitVec.and_zero]
  rfl

theorem TablePattern.blez (rest : BitVec 26) : TablePattern.Statement (.blez rest) := by
  refine (encodeJ_and _ 63#6 _ 0#26).trans ?_
  simp only [BitVec.and_zero]
  rfl

theorem TablePattern.cop0 (rest : BitVec 26) : TablePattern.Statement (.cop0 rest) := by
  refine (encodeJ_and _ 63#6 _ 0#26).trans ?_
  simp only [BitVec.and_zero]
  rfl

theorem TablePattern.cop1 (rest : BitVec 26) : TablePattern.Statement (.cop1 rest) := by
  refine (encodeJ_and _ 63#6 _ 0#26).trans ?_
  simp only [BitVec.and_zero]
  rfl

theorem TablePattern.cop2 (rest : BitVec 26) : TablePattern.Statement (.cop2 rest) := by
  refine (encodeJ_and _ 63#6 _ 0#26).trans ?_
  simp only [BitVec.and_zero]
  rfl

theorem TablePattern.cop3 (rest : BitVec 26) : TablePattern.Statement (.cop3 rest) := by
  refine (encodeJ_and _ 63#6 _ 0#26).trans ?_
  simp only [BitVec.and_zero]
  rfl

theorem TablePattern.beql (rest : BitVec 26) : TablePattern.Statement (.beql rest) := by
  refine (encodeJ_and _ 63#6 _ 0#26).trans ?_
  simp only [BitVec.and_zero]
  rfl

theorem TablePattern.bnel (rest : BitVec 26) : TablePattern.Statement (.bnel rest) := by
  refine (encodeJ_and _ 63#6 _ 0#26).trans ?_
  simp only [BitVec.and_zero]
  rfl

theorem TablePattern.blezl (rest : BitVec 26) : TablePattern.Statement (.blezl rest) := by
  refine (encodeJ_and _ 63#6 _ 0#26).trans ?_
  simp only [BitVec.and_zero]
  rfl

theorem TablePattern.ll (rest : BitVec 26) : TablePattern.Statement (.ll rest) := by
  refine (encodeJ_and _ 63#6 _ 0#26).trans ?_
  simp only [BitVec.and_zero]
  rfl

theorem TablePattern.lwc1 (rest : BitVec 26) : TablePattern.Statement (.lwc1 rest) := by
  refine (encodeJ_and _ 63#6 _ 0#26).trans ?_
  simp only [BitVec.and_zero]
  rfl

theorem TablePattern.lwc2 (rest : BitVec 26) : TablePattern.Statement (.lwc2 rest) := by
  refine (encodeJ_and _ 63#6 _ 0#26).trans ?_
  simp only [BitVec.and_zero]
  rfl

theorem TablePattern.lwc3 (rest : BitVec 26) : TablePattern.Statement (.lwc3 rest) := by
  refine (encodeJ_and _ 63#6 _ 0#26).trans ?_
  simp only [BitVec.and_zero]
  rfl

theorem TablePattern.ldc1 (rest : BitVec 26) : TablePattern.Statement (.ldc1 rest) := by
  refine (encodeJ_and _ 63#6 _ 0#26).trans ?_
  simp only [BitVec.and_zero]
  rfl

theorem TablePattern.ldc2 (rest : BitVec 26) : TablePattern.Statement (.ldc2 rest) := by
  refine (encodeJ_and _ 63#6 _ 0#26).trans ?_
  simp only [BitVec.and_zero]
  rfl

theorem TablePattern.sc (rest : BitVec 26) : TablePattern.Statement (.sc rest) := by
  refine (encodeJ_and _ 63#6 _ 0#26).trans ?_
  simp only [BitVec.and_zero]
  rfl

theorem TablePattern.swc1 (rest : BitVec 26) : TablePattern.Statement (.swc1 rest) := by
  refine (encodeJ_and _ 63#6 _ 0#26).trans ?_
  simp only [BitVec.and_zero]
  rfl

theorem TablePattern.swc2 (rest : BitVec 26) : TablePattern.Statement (.swc2 rest) := by
  refine (encodeJ_and _ 63#6 _ 0#26).trans ?_
  simp only [BitVec.and_zero]
  rfl

theorem TablePattern.swc3 (rest : BitVec 26) : TablePattern.Statement (.swc3 rest) := by
  refine (encodeJ_and _ 63#6 _ 0#26).trans ?_
  simp only [BitVec.and_zero]
  rfl

theorem TablePattern.sdc1 (rest : BitVec 26) : TablePattern.Statement (.sdc1 rest) := by
  refine (encodeJ_and _ 63#6 _ 0#26).trans ?_
  simp only [BitVec.and_zero]
  rfl

theorem TablePattern.sdc2 (rest : BitVec 26) : TablePattern.Statement (.sdc2 rest) := by
  refine (encodeJ_and _ 63#6 _ 0#26).trans ?_
  simp only [BitVec.and_zero]
  rfl

theorem TablePattern.syscall (rest : BitVec 20) : TablePattern.Statement (.syscall rest) := (encodeCode_and _ _).trans rfl

theorem TablePattern.mfhi (rest : BitVec 20) : TablePattern.Statement (.mfhi rest) := (encodeCode_and _ _).trans rfl

theorem TablePattern.mthi (rest : BitVec 20) : TablePattern.Statement (.mthi rest) := (encodeCode_and _ _).trans rfl

theorem TablePattern.mflo (rest : BitVec 20) : TablePattern.Statement (.mflo rest) := (encodeCode_and _ _).trans rfl

theorem TablePattern.mtlo (rest : BitVec 20) : TablePattern.Statement (.mtlo rest) := (encodeCode_and _ _).trans rfl

theorem TablePattern.mult (rest : BitVec 20) : TablePattern.Statement (.mult rest) := (encodeCode_and _ _).trans rfl

theorem TablePattern.multu (rest : BitVec 20) : TablePattern.Statement (.multu rest) := (encodeCode_and _ _).trans rfl

theorem TablePattern.div (rest : BitVec 20) : TablePattern.Statement (.div rest) := (encodeCode_and _ _).trans rfl

theorem TablePattern.divu (rest : BitVec 20) : TablePattern.Statement (.divu rest) := (encodeCode_and _ _).trans rfl

theorem TablePattern.tge (rest : BitVec 20) : TablePattern.Statement (.tge rest) := (encodeCode_and _ _).trans rfl

theorem TablePattern.tgeu (rest : BitVec 20) : TablePattern.Statement (.tgeu rest) := (encodeCode_and _ _).trans rfl

theorem TablePattern.tlt (rest : BitVec 20) : TablePattern.Statement (.tlt rest) := (encodeCode_and _ _).trans rfl

theorem TablePattern.tltu (rest : BitVec 20) : TablePattern.Statement (.tltu rest) := (encodeCode_and _ _).trans rfl

theorem TablePattern.teq (rest : BitVec 20) : TablePattern.Statement (.teq rest) := (encodeCode_and _ _).trans rfl

theorem TablePattern.tne (rest : BitVec 20) : TablePattern.Statement (.tne rest) := (encodeCode_and _ _).trans rfl

theorem TablePattern.bltz (high : BitVec 5) (low : BitVec 16) : TablePattern.Statement (.bltz high low) := by
  refine (encodeI_and _ 63#6 _ 0#5 _ 31#5 _ 0#16).trans ?_
  simp only [BitVec.and_zero]
  rfl

theorem TablePattern.bgez (high : BitVec 5) (low : BitVec 16) : TablePattern.Statement (.bgez high low) := by
  refine (encodeI_and _ 63#6 _ 0#5 _ 31#5 _ 0#16).trans ?_
  simp only [BitVec.and_zero]
  rfl

theorem TablePattern.bltzal (high : BitVec 5) (low : BitVec 16) : TablePattern.Statement (.bltzal high low) := by
  refine (encodeI_and _ 63#6 _ 0#5 _ 31#5 _ 0#16).trans ?_
  simp only [BitVec.and_zero]
  rfl

theorem TablePattern.bgezal (high : BitVec 5) (low : BitVec 16) : TablePattern.Statement (.bgezal high low) := by
  refine (encodeI_and _ 63#6 _ 0#5 _ 31#5 _ 0#16).trans ?_
  simp only [BitVec.and_zero]
  rfl

theorem TablePattern.bltzl (high : BitVec 5) (low : BitVec 16) : TablePattern.Statement (.bltzl high low) := by
  refine (encodeI_and _ 63#6 _ 0#5 _ 31#5 _ 0#16).trans ?_
  simp only [BitVec.and_zero]
  rfl

theorem TablePattern.bgezl (high : BitVec 5) (low : BitVec 16) : TablePattern.Statement (.bgezl high low) := by
  refine (encodeI_and _ 63#6 _ 0#5 _ 31#5 _ 0#16).trans ?_
  simp only [BitVec.and_zero]
  rfl

theorem TablePattern.tgei (high : BitVec 5) (low : BitVec 16) : TablePattern.Statement (.tgei high low) := by
  refine (encodeI_and _ 63#6 _ 0#5 _ 31#5 _ 0#16).trans ?_
  simp only [BitVec.and_zero]
  rfl

theorem TablePattern.teqi (high : BitVec 5) (low : BitVec 16) : TablePattern.Statement (.teqi high low) := by
  refine (encodeI_and _ 63#6 _ 0#5 _ 31#5 _ 0#16).trans ?_
  simp only [BitVec.and_zero]
  rfl

theorem TablePattern.tnei (high : BitVec 5) (low : BitVec 16) : TablePattern.Statement (.tnei high low) := by
  refine (encodeI_and _ 63#6 _ 0#5 _ 31#5 _ 0#16).trans ?_
  simp only [BitVec.and_zero]
  rfl

theorem TablePattern.bltzall (high : BitVec 5) (low : BitVec 16) : TablePattern.Statement (.bltzall high low) := by
  refine (encodeI_and _ 63#6 _ 0#5 _ 31#5 _ 0#16).trans ?_
  simp only [BitVec.and_zero]
  rfl

theorem TablePattern.bgezall (high : BitVec 5) (low : BitVec 16) : TablePattern.Statement (.bgezall high low) := by
  refine (encodeI_and _ 63#6 _ 0#5 _ 31#5 _ 0#16).trans ?_
  simp only [BitVec.and_zero]
  rfl

theorem TablePattern.tgeiu (high : BitVec 5) (low : BitVec 16) : TablePattern.Statement (.tgeiu high low) := by
  refine (encodeI_and _ 63#6 _ 0#5 _ 31#5 _ 0#16).trans ?_
  simp only [BitVec.and_zero]
  rfl

theorem TablePattern.tlti (high : BitVec 5) (low : BitVec 16) : TablePattern.Statement (.tlti high low) := by
  refine (encodeI_and _ 63#6 _ 0#5 _ 31#5 _ 0#16).trans ?_
  simp only [BitVec.and_zero]
  rfl

theorem TablePattern.tltiu (high : BitVec 5) (low : BitVec 16) : TablePattern.Statement (.tltiu high low) := by
  refine (encodeI_and _ 63#6 _ 0#5 _ 31#5 _ 0#16).trans ?_
  simp only [BitVec.and_zero]
  rfl

end Sys2Proof.Laws
end

