-- ==== Sys2Proof/Laws/Step.lean ====
section
/-! SUPPORT. What a fetch and a step can do, said once; and the lift of an invariant of `step` to every reachable
state. -/

namespace Sys2Proof.Machine

/-- A fetch that answers a word (10_state.md R16 lines 2 and 3). -/
theorem State.fetch_word (s : State) (w : Word) (h : s.fetch = .word w) :
    s.raised = none ∧ alignedTo 3#2 s.pc = true ∧ ∃ p u, addressTranslation s.cfg s.pc .fetch = .ok (p, u) ∧
      busErrorAt s.cfg p.toNat = false ∧ s.wordWritten p.frame = false ∧
      w = (memoryLanes s.cfg.bigEndianMem s.mem p.frame).word := by
  unfold State.fetch at h
  split at h
  · cases h
  · split at h
    · split at h
      · cases h
      · rename_i hr ha _ p u ht
        refine ⟨hr, ha, p, u, ht, ?_⟩
        unfold State.fetchWord at h
        rcases s.loadMemory_eq u .word p .fetch with ⟨_, e⟩ | ⟨hb, e⟩
        · rw [e] at h; cases h
        · rw [e] at h
          cases hw : s.wordWritten p.frame with
          | true => simp [hw] at h
          | false => simp [hw] at h; exact ⟨hb, rfl, h.symm⟩
    · cases h

/-- A fetch that raises does so in a state in which no exception was taken. -/
theorem State.fetch_raises (s : State) (r : Raise) (h : s.fetch = .raises r) : s.raised = none := by
  unfold State.fetch at h
  split at h
  · cases h
  · assumption

/-- What a word that is no row of the table leaves when the step goes on (30_encoding.md R71). -/
theorem rejectWord_next (why : Rejected) (s t : State) (h : rejectWord why s = .next t) :
    why = .reserved ∧ t = s.withException (.plain .reservedInstruction) := by
  cases why <;> simp only [rejectWord] at h
  case reserved => exact ⟨rfl, s.takeException_next t _ h⟩
  all_goals cases h

/-- Everything a step can do when it goes on (10_state.md R16): an exception at the fetch, a reserved word, or the
meaning of the decoded instruction. -/
theorem step_next (s t : State) (h : step s = .next t) :
    s.raised = none ∧
    ((∃ r, s.fetch = .raises r ∧ t = s.withException r) ∨
     (∃ w, s.fetch = .word w ∧ decode w = .rejected .reserved ∧
        t = s.withException (.plain .reservedInstruction)) ∨
     (∃ w i, s.fetch = .word w ∧ decode w = .instr i ∧ exec i s = .next t)) := by
  unfold step at h
  split at h
  · rename_i w hw
    refine ⟨(s.fetch_word w hw).1, ?_⟩
    unfold runWord at h
    split at h
    · exact Or.inr (Or.inr ⟨w, _, hw, ‹_›, h⟩)
    · obtain ⟨rfl, rfl⟩ := rejectWord_next _ s t h
      exact Or.inr (Or.inl ⟨w, hw, ‹_›, rfl⟩)
  · rename_i r hr
    exact ⟨s.fetch_raises r hr, Or.inl ⟨r, hr, State.takeException_next s t r h⟩⟩
  · cases h
  · cases h

/-- A predicate that holds at reset and that every step keeps holds in every reachable state. -/
theorem Reachable.lift (P : State → Prop) (h0 : P State.reset) (hs : ∀ s t, P s → step s = .next t → P t) (s : State)
    (h : Reachable s) : P s := by
  induction h with
  | reset => exact h0
  | next s t _ hst ih => exact hs s t ih hst

end Sys2Proof.Machine
end

