-- ==== Sys2Proof/Tests/Slice0.lean ====
section
/-! SUPPORT. Tests of one step, of decoding and of the well-formedness check, and one witness theorem for each statement
that has hypotheses. Expected values are those of 95_test_vectors.md, or worked by hand from the rule named. -/

namespace Sys2Proof.Tests

open Sys2Proof Sys2Proof.Machine

/-! ## Small states -/

/-- The start state of the vectors: program counter 0x1000, the registers and bytes given; `re` makes ReverseEndian 1
(95_test_vectors.md, conventions). -/
def start (impl : Impl) (be re : Bool) (regs : List (Reg × Word)) (bytes : List (Nat × Byte)) : State :=
  let s := { State.reset with
    pc := 0x1000#32, npc := 0x1004#32
    mode := if re then .user else .kernel
    sr := if re then 0x10000000#32 else 0#32
    cfg := { launchConfig with impl := impl, bigEndianMem := be } }
  bytes.foldl (fun s b => s.placeByte b.1 b.2) (regs.foldl (fun s r => s.setReg r.1 r.2) s)

/-- The state at another program counter. -/
def startAt (s : State) (pc : Word) : State := { s with pc := pc, npc := pc + 4#32 }

/-- The state inside a delay slot, with a jump's target next. -/
def inSlot (s : State) : State := { s with npc := 0x2000#32, inDelay := true }

/-- The bytes of 95_test_vectors.md section 4.1. -/
def loadBytes : List (Nat × Byte) :=
  [(0x100, 0x80), (0x101, 0x01), (0x102, 0x7F), (0x103, 0xFF), (0x104, 0x12), (0x105, 0x34), (0x106, 0x56), (0x107, 0x78)]

/-- The bytes of 95_test_vectors.md section 4.3. -/
def storeBytes : List (Nat × Byte) := [(0x100, 0xAA), (0x101, 0xBB), (0x102, 0xCC), (0x103, 0xDD)]

/-- One step on the instruction word given. -/
def run (s : State) (w : Nat) : Outcome := step (s.withFetchWord 32 w)

/-- A register once the step's write has arrived. -/
def regAfter (o : Outcome) (r : Reg) : Option Word :=
  match o with
  | .next t => some (t.arrived r)
  | .fault _ => none
  | .refused _ => none

/-- The exception a step took, with EPC. -/
def exceptionAfter (o : Outcome) : Option (ExceptionInfo × Word) :=
  match o with
  | .next t => t.raised.map fun info => (info, t.epc)
  | .fault _ => none
  | .refused _ => none

/-- The four bytes at 0x100. -/
def bytesAfter (o : Outcome) : Option Word :=
  match o with
  | .next t => some (t.mem.read 0x100 ++ t.mem.read 0x101 ++ t.mem.read 0x102 ++ t.mem.read 0x103)
  | .fault _ => none
  | .refused _ => none

/-- The program counter pair and `in_delay`. -/
def pcAfter (o : Outcome) : Option (Word × Word × Bool) :=
  match o with
  | .next t => some (t.pc, t.npc, t.inDelay)
  | .fault _ => none
  | .refused _ => none

/-! ## The well-formedness check -/

theorem test_wellFormed_accepts_add : (Instr.add 3 1 2).wellFormed .r2000R3000 = true := by decide

theorem test_wellFormed_accepts_alpha_on_r4000 : (Instr.beql 0).wellFormed .r4000R6000 = true := by decide

theorem test_wellFormed_refuses_jalr_equal : (Instr.jalr 2 2).wellFormed .r4000R6000 = false := by decide

theorem test_wellFormed_refuses_alpha_on_r2000 : (Instr.tge 0).wellFormed .r2000R3000 = false := by decide

theorem test_wellFormed_refuses_beta_on_r2000 : (Instr.bltzl 0 0).wellFormed .r2000R3000 = false := by decide

theorem test_wellFormed_refuses_bcfl_on_r2000 :
    (Instr.cop1 0b01000000100000000000000000).wellFormed .r2000R3000 = false := by decide

theorem test_wellFormed_refuses_gamma : (Instr.cop2 0b00001000000000000000000000).wellFormed .r4000R6000 = false := by
  decide

theorem test_wellFormed_refuses_lost : (Instr.cop3 0b00111000000000000000000000).wellFormed .r4000R6000 = false := by
  decide

/-- 43_coprocessor.md R193: CP0 has no CF and CT, while MF of CP0 and CF of another unit stand. -/
theorem test_wellFormed_cp0_control :
    (Instr.cop0 0b00010000000000000000000000).wellFormed .r2000R3000 = false ∧
    (Instr.cop0 0b00110000000000000000000000).wellFormed .r4000R6000 = false ∧
    (Instr.cop0 0b00000000000000000000000000).wellFormed .r2000R3000 = true ∧
    (Instr.cop1 0b00010000000000000000000000).wellFormed .r2000R3000 = true := by decide

theorem test_wellFormed_refuses_ll_on_r2000 : (Instr.ll 0).wellFormed .r2000R3000 = false := by decide

/-! ## Decoding: words written out from the encodings (95_test_vectors.md section 2; 30_encoding.md R68, R70) -/

theorem test_decode_computational_1 :
    decode 0x00221820#32 = .instr (.add 3 1 2) ∧
    decode 0x2022FFFF#32 = .instr (.addi 2 1 0xFFFF) ∧
    decode 0x24227FFF#32 = .instr (.addiu 2 1 0x7FFF) ∧
    decode 0x03DDF821#32 = .instr (.addu 31 30 29) ∧
    decode 0x00A62024#32 = .instr (.and 4 5 6) ∧
    decode 0x3022FF00#32 = .instr (.andi 2 1 0xFF00) ∧
    decode 0x3C011234#32 = .instr (.lui 1 0x1234) ∧
    decode 0x00201827#32 = .instr (.nor 3 1 0) ∧
    decode 0x00221825#32 = .instr (.or 3 1 2) := by decide

theorem test_decode_computational_2 :
    decode 0x34215678#32 = .instr (.ori 1 1 0x5678) ∧
    decode 0x00000000#32 = .instr (.sll 0 0 0) ∧
    decode 0x00021FC0#32 = .instr (.sll 3 2 31) ∧
    decode 0x00221804#32 = .instr (.sllv 3 2 1) ∧
    decode 0x0022182A#32 = .instr (.slt 3 1 2) ∧
    decode 0x2822FFFF#32 = .instr (.slti 2 1 0xFFFF) ∧
    decode 0x2C22FFFF#32 = .instr (.sltiu 2 1 0xFFFF) ∧
    decode 0x0002182B#32 = .instr (.sltu 3 0 2) ∧
    decode 0x00021903#32 = .instr (.sra 3 2 4) := by decide

theorem test_decode_computational_3 :
    decode 0x00221807#32 = .instr (.srav 3 2 1) ∧
    decode 0x00021902#32 = .instr (.srl 3 2 4) ∧
    decode 0x00221806#32 = .instr (.srlv 3 2 1) ∧
    decode 0x00221822#32 = .instr (.sub 3 1 2) ∧
    decode 0x00021823#32 = .instr (.subu 3 0 2) ∧
    decode 0x00221826#32 = .instr (.xor 3 1 2) ∧
    decode 0x3822FFFF#32 = .instr (.xori 2 1 0xFFFF) := by decide

theorem test_decode_memory_1 :
    decode 0x8022FFFF#32 = .instr (.lb 2 0xFFFF 1) ∧
    decode 0x90220003#32 = .instr (.lbu 2 0x3 1) ∧
    decode 0x84220002#32 = .instr (.lh 2 0x2 1) ∧
    decode 0x9422FFFE#32 = .instr (.lhu 2 0xFFFE 1) ∧
    decode 0x8FA20004#32 = .instr (.lw 2 0x4 29) ∧
    decode 0x88220000#32 = .instr (.lwl 2 0x0 1) ∧
    decode 0x98220003#32 = .instr (.lwr 2 0x3 1) ∧
    decode 0xA0220001#32 = .instr (.sb 2 0x1 1) ∧
    decode 0xA4220002#32 = .instr (.sh 2 0x2 1) := by decide

theorem test_decode_memory_2 :
    decode 0xAFA2FFFC#32 = .instr (.sw 2 0xFFFC 29) ∧
    decode 0xA8220000#32 = .instr (.swl 2 0x0 1) ∧
    decode 0xB8220003#32 = .instr (.swr 2 0x3 1) := by decide

theorem test_decode_jumps_and_break_1 :
    decode 0x10220003#32 = .instr (.beq 1 2 0x3) ∧
    decode 0x1420FFFD#32 = .instr (.bne 1 0 0xFFFD) ∧
    decode 0x0000000D#32 = .instr (.brk 0) ∧
    decode 0x03FFFFCD#32 = .instr (.brk 0xFFFFF) ∧
    decode 0x08000400#32 = .instr (.j 0x0000400) ∧
    decode 0x0FFFFFFF#32 = .instr (.jal 0x3FFFFFF) ∧
    decode 0x0040F809#32 = .instr (.jalr 31 2) ∧
    decode 0x00402009#32 = .instr (.jalr 4 2) ∧
    decode 0x03E00008#32 = .instr (.jr 31) := by decide

theorem test_decode_primary_1 :
    decode 0b00011010000000000000000000000011#32 = .instr (.blez 0b10000000000000000000000011) ∧
    decode 0b01000010000000000000000000000011#32 = .instr (.cop0 0b10000000000000000000000011) ∧
    decode 0b01000110000000000000000000000011#32 = .instr (.cop1 0b10000000000000000000000011) ∧
    decode 0b01001010000000000000000000000011#32 = .instr (.cop2 0b10000000000000000000000011) ∧
    decode 0b01001110000000000000000000000011#32 = .instr (.cop3 0b10000000000000000000000011) ∧
    decode 0b01010010000000000000000000000011#32 = .instr (.beql 0b10000000000000000000000011) ∧
    decode 0b01010110000000000000000000000011#32 = .instr (.bnel 0b10000000000000000000000011) ∧
    decode 0b01011010000000000000000000000011#32 = .instr (.blezl 0b10000000000000000000000011) ∧
    decode 0b11000010000000000000000000000011#32 = .instr (.ll 0b10000000000000000000000011) ∧
    decode 0b11000110000000000000000000000011#32 = .instr (.lwc1 0b10000000000000000000000011) := by decide

theorem test_decode_primary_2 :
    decode 0b11001010000000000000000000000011#32 = .instr (.lwc2 0b10000000000000000000000011) ∧
    decode 0b11001110000000000000000000000011#32 = .instr (.lwc3 0b10000000000000000000000011) ∧
    decode 0b11010110000000000000000000000011#32 = .instr (.ldc1 0b10000000000000000000000011) ∧
    decode 0b11011010000000000000000000000011#32 = .instr (.ldc2 0b10000000000000000000000011) ∧
    decode 0b11100010000000000000000000000011#32 = .instr (.sc 0b10000000000000000000000011) ∧
    decode 0b11100110000000000000000000000011#32 = .instr (.swc1 0b10000000000000000000000011) ∧
    decode 0b11101010000000000000000000000011#32 = .instr (.swc2 0b10000000000000000000000011) ∧
    decode 0b11101110000000000000000000000011#32 = .instr (.swc3 0b10000000000000000000000011) ∧
    decode 0b11110110000000000000000000000011#32 = .instr (.sdc1 0b10000000000000000000000011) ∧
    decode 0b11111010000000000000000000000011#32 = .instr (.sdc2 0b10000000000000000000000011) := by decide

theorem test_decode_function_1 :
    decode 0b00000010000000000000000011001100#32 = .instr (.syscall 0b10000000000000000011) ∧
    decode 0b00000010000000000000000011010000#32 = .instr (.mfhi 0b10000000000000000011) ∧
    decode 0b00000010000000000000000011010001#32 = .instr (.mthi 0b10000000000000000011) ∧
    decode 0b00000010000000000000000011010010#32 = .instr (.mflo 0b10000000000000000011) ∧
    decode 0b00000010000000000000000011010011#32 = .instr (.mtlo 0b10000000000000000011) ∧
    decode 0b00000010000000000000000011011000#32 = .instr (.mult 0b10000000000000000011) ∧
    decode 0b00000010000000000000000011011001#32 = .instr (.multu 0b10000000000000000011) ∧
    decode 0b00000010000000000000000011011010#32 = .instr (.div 0b10000000000000000011) ∧
    decode 0b00000010000000000000000011011011#32 = .instr (.divu 0b10000000000000000011) ∧
    decode 0b00000010000000000000000011110000#32 = .instr (.tge 0b10000000000000000011) := by decide

theorem test_decode_function_2 :
    decode 0b00000010000000000000000011110001#32 = .instr (.tgeu 0b10000000000000000011) ∧
    decode 0b00000010000000000000000011110010#32 = .instr (.tlt 0b10000000000000000011) ∧
    decode 0b00000010000000000000000011110011#32 = .instr (.tltu 0b10000000000000000011) ∧
    decode 0b00000010000000000000000011110100#32 = .instr (.teq 0b10000000000000000011) ∧
    decode 0b00000010000000000000000011110110#32 = .instr (.tne 0b10000000000000000011) := by decide

theorem test_decode_regimm_1 :
    decode 0b00000110001000001000000000000011#32 = .instr (.bltz 0b10001 0b1000000000000011) ∧
    decode 0b00000110001000011000000000000011#32 = .instr (.bgez 0b10001 0b1000000000000011) ∧
    decode 0b00000110001100001000000000000011#32 = .instr (.bltzal 0b10001 0b1000000000000011) ∧
    decode 0b00000110001100011000000000000011#32 = .instr (.bgezal 0b10001 0b1000000000000011) ∧
    decode 0b00000110001000101000000000000011#32 = .instr (.bltzl 0b10001 0b1000000000000011) ∧
    decode 0b00000110001000111000000000000011#32 = .instr (.bgezl 0b10001 0b1000000000000011) ∧
    decode 0b00000110001010001000000000000011#32 = .instr (.tgei 0b10001 0b1000000000000011) ∧
    decode 0b00000110001011001000000000000011#32 = .instr (.teqi 0b10001 0b1000000000000011) ∧
    decode 0b00000110001011101000000000000011#32 = .instr (.tnei 0b10001 0b1000000000000011) ∧
    decode 0b00000110001100101000000000000011#32 = .instr (.bltzall 0b10001 0b1000000000000011) := by decide

theorem test_decode_regimm_2 :
    decode 0b00000110001100111000000000000011#32 = .instr (.bgezall 0b10001 0b1000000000000011) ∧
    decode 0b00000110001010011000000000000011#32 = .instr (.tgeiu 0b10001 0b1000000000000011) ∧
    decode 0b00000110001010101000000000000011#32 = .instr (.tlti 0b10001 0b1000000000000011) ∧
    decode 0b00000110001010111000000000000011#32 = .instr (.tltiu 0b10001 0b1000000000000011) := by decide

/-! ## Computational instructions (95_test_vectors.md section 3) -/

theorem test_add_a2 :
    exceptionAfter (run (start .r2000R3000 true false [(1, 0x7FFFFFFF), (2, 0x00000001)] []) 0x00221820) =
      some (.mk .overflow false none none, 0x1000) := by decide

theorem test_add_a5 :
    regAfter (run (start .r2000R3000 true false [(1, 0xFFFFFFFF), (2, 0x00000001)] []) 0x00221820) 3 =
      some 0x00000000 := by decide

theorem test_addi_a9 :
    exceptionAfter (run (start .r2000R3000 true false [(1, 0x7FFFFFFF)] []) 0x20220001) =
      some (.mk .overflow false none none, 0x1000) := by decide

theorem test_addi_a11 :
    regAfter (run (start .r2000R3000 true false [(1, 0x80008000)] []) 0x20228000) 2 = some 0x80000000 := by decide

theorem test_addiu_a12 :
    regAfter (run (start .r2000R3000 true false [(1, 0x7FFFFFFF)] []) 0x24220001) 2 = some 0x80000000 := by decide

theorem test_addiu_a13 :
    regAfter (run (start .r2000R3000 true false [] []) 0x24028000) 2 = some 0xFFFF8000 := by decide

theorem test_addu_a15 :
    regAfter (run (start .r2000R3000 true false [(1, 0x7FFFFFFF), (2, 0x00000001)] []) 0x00221821) 3 =
      some 0x80000000 := by decide

theorem test_addu_a16 :
    regAfter (run (start .r2000R3000 true false [(1, 0xFFFFFFFF), (2, 0xFFFFFFFF)] []) 0x00221821) 3 =
      some 0xFFFFFFFE := by decide

theorem test_sub_a17 :
    regAfter (run (start .r2000R3000 true false [(1, 0x00000005), (2, 0x00000007)] []) 0x00221822) 3 =
      some 0xFFFFFFFE := by decide

theorem test_sub_a18 :
    exceptionAfter (run (start .r2000R3000 true false [(1, 0x80000000), (2, 0x00000001)] []) 0x00221822) =
      some (.mk .overflow false none none, 0x1000) := by decide

theorem test_subu_a22 :
    regAfter (run (start .r2000R3000 true false [(1, 0x80000000), (2, 0x00000001)] []) 0x00221823) 3 =
      some 0x7FFFFFFF := by decide

theorem test_subu_a24 :
    regAfter (run (start .r2000R3000 true false [(2, 0x00000001)] []) 0x00021823) 3 = some 0xFFFFFFFF := by decide

theorem test_and_a25 :
    regAfter (run (start .r2000R3000 true false [(1, 0xFF00FF00), (2, 0x0FF00FF0)] []) 0x00221824) 3 =
      some 0x0F000F00 := by decide

theorem test_andi_a27 :
    regAfter (run (start .r2000R3000 true false [(1, 0xFFFF8000)] []) 0x30228000) 2 = some 0x00008000 := by decide

theorem test_or_a28 :
    regAfter (run (start .r2000R3000 true false [(1, 0xFF00FF00), (2, 0x0FF00FF0)] []) 0x00221825) 3 =
      some 0xFFF0FFF0 := by decide

theorem test_ori_a30 :
    regAfter (run (start .r2000R3000 true false [(1, 0x12340000)] []) 0x34228000) 2 = some 0x12348000 := by decide

theorem test_xor_a32 :
    regAfter (run (start .r2000R3000 true false [(1, 0xFF00FF00), (2, 0x0FF00FF0)] []) 0x00221826) 3 =
      some 0xF0F0F0F0 := by decide

theorem test_xori_a34 :
    regAfter (run (start .r2000R3000 true false [(1, 0xFFFFFFFF)] []) 0x3822FFFF) 2 = some 0xFFFF0000 := by decide

theorem test_nor_a35 :
    regAfter (run (start .r2000R3000 true false [(1, 0xFF00FF00), (2, 0x0FF00FF0)] []) 0x00221827) 3 =
      some 0x000F000F := by decide

theorem test_lui_a38 :
    regAfter (run (start .r2000R3000 true false [] []) 0x3C018001) 1 = some 0x80010000 := by decide

theorem test_slt_a42 :
    regAfter (run (start .r2000R3000 true false [(1, 0x7FFFFFFF), (2, 0x80000000)] []) 0x0022182A) 3 =
      some 0x00000000 := by decide

theorem test_slt_a43 :
    regAfter (run (start .r2000R3000 true false [(1, 0x80000000), (2, 0x7FFFFFFF)] []) 0x0022182A) 3 =
      some 0x00000001 := by decide

theorem test_sltu_a46 :
    regAfter (run (start .r2000R3000 true false [(1, 0x7FFFFFFF), (2, 0x80000000)] []) 0x0022182B) 3 =
      some 0x00000001 := by decide

theorem test_sltu_a48 :
    regAfter (run (start .r2000R3000 true false [(2, 0x80000000)] []) 0x0002182B) 3 = some 0x00000001 := by decide

theorem test_slti_a51 :
    regAfter (run (start .r2000R3000 true false [(1, 0x00007FFE)] []) 0x28227FFF) 2 = some 0x00000001 := by decide

theorem test_slti_a52 :
    regAfter (run (start .r2000R3000 true false [(1, 0x80000000)] []) 0x28228000) 2 = some 0x00000001 := by decide

theorem test_sltiu_a54 :
    regAfter (run (start .r2000R3000 true false [(1, 0xFFFFFFFF)] []) 0x2C22FFFF) 2 = some 0x00000000 := by decide

theorem test_sltiu_a55 :
    regAfter (run (start .r2000R3000 true false [(1, 0xFFFF7FFF)] []) 0x2C228000) 2 = some 0x00000001 := by decide

theorem test_sll_a60 :
    regAfter (run (start .r2000R3000 true false [(2, 0x80000001)] []) 0x00021840) 3 = some 0x00000002 := by decide

theorem test_srl_a63 :
    regAfter (run (start .r2000R3000 true false [(2, 0x80000001)] []) 0x00021842) 3 = some 0x40000000 := by decide

theorem test_sra_a66 :
    regAfter (run (start .r2000R3000 true false [(2, 0x80000001)] []) 0x00021843) 3 = some 0xC0000000 := by decide

theorem test_sra_a68 :
    regAfter (run (start .r2000R3000 true false [(2, 0x7FFFFFFF)] []) 0x00021FC3) 3 = some 0x00000000 := by decide

theorem test_sllv_a70 :
    regAfter (run (start .r2000R3000 true false [(1, 0x00000024), (2, 0x00000001)] []) 0x00221804) 3 =
      some 0x00000010 := by decide

theorem test_sllv_a71 :
    regAfter (run (start .r2000R3000 true false [(1, 0x00000020), (2, 0xDEADBEEF)] []) 0x00221804) 3 =
      some 0xDEADBEEF := by decide

theorem test_srlv_a73 :
    regAfter (run (start .r2000R3000 true false [(1, 0x0000001C), (2, 0xF0000000)] []) 0x00221806) 3 =
      some 0x0000000F := by decide

theorem test_srlv_a74 :
    regAfter (run (start .r2000R3000 true false [(1, 0xFFFFFFE0), (2, 0xF0000000)] []) 0x00221806) 3 =
      some 0xF0000000 := by decide

theorem test_srav_a75 :
    regAfter (run (start .r2000R3000 true false [(1, 0x0000001C), (2, 0xF0000000)] []) 0x00221807) 3 =
      some 0xFFFFFFFF := by decide

theorem test_srav_a77 :
    regAfter (run (start .r2000R3000 true false [(1, 0x0000003F), (2, 0x40000000)] []) 0x00221807) 3 =
      some 0x00000000 := by decide

/-! ## Loads (section 4.1, 4.2) -/

theorem test_lb_l2 :
    regAfter (run (start .r4000R6000 true false [(1, 0x100), (2, 0xAABBCCDD)] loadBytes) 0x80220001) 2 =
      some 0x00000001 := by decide

theorem test_lb_l29 :
    regAfter (run (start .r4000R6000 false true [(1, 0x100), (2, 0xAABBCCDD)] loadBytes) 0x80220000) 2 =
      some 0xFFFFFFFF := by decide

theorem test_lbu_l6 :
    regAfter (run (start .r4000R6000 false false [(1, 0x100), (2, 0xAABBCCDD)] loadBytes) 0x90220003) 2 =
      some 0x000000FF := by decide

theorem test_lbu_l30 :
    regAfter (run (start .r4000R6000 true true [(1, 0x100), (2, 0xAABBCCDD)] loadBytes) 0x90220001) 2 =
      some 0x0000007F := by decide

theorem test_lh_l7 :
    regAfter (run (start .r4000R6000 false false [(1, 0x100), (2, 0xAABBCCDD)] loadBytes) 0x84220000) 2 =
      some 0x00000180 := by decide

theorem test_lh_l9 :
    exceptionAfter (run (start .r4000R6000 true false [(1, 0x100), (2, 0xAABBCCDD)] loadBytes) 0x84220001) =
      some (.mk .addressError false (some 0x00000101) (some .load), 0x1000) := by decide

theorem test_lhu_l12 :
    regAfter (run (start .r4000R6000 true false [(1, 0x100), (2, 0xAABBCCDD)] loadBytes) 0x94220002) 2 =
      some 0x00007FFF := by decide

theorem test_lhu_l32 :
    regAfter (run (start .r4000R6000 false true [(1, 0x100), (2, 0xAABBCCDD)] loadBytes) 0x94220002) 2 =
      some 0x00000180 := by decide

theorem test_lw_l15 :
    regAfter (run (start .r4000R6000 true false [(1, 0x100), (2, 0xAABBCCDD)] loadBytes) 0x8C220004) 2 =
      some 0x12345678 := by decide

theorem test_lw_l20 :
    regAfter (run (start .r4000R6000 false false [(1, 0xFFFF8105)] loadBytes) 0x8C227FFF) 2 =
      some 0x78563412 := by decide

theorem test_lwl_l22 :
    regAfter (run (start .r4000R6000 true false [(1, 0x100), (2, 0xAABBCCDD)] loadBytes) 0x88220001) 2 =
      some 0x017FFFDD := by decide

theorem test_lwl_l36 :
    regAfter (run (start .r4000R6000 false true [(1, 0x100), (2, 0xAABBCCDD)] loadBytes) 0x88220000) 2 =
      some 0xFF7F0180 := by decide

theorem test_lwr_l26 :
    regAfter (run (start .r4000R6000 true false [(1, 0x100), (2, 0xAABBCCDD)] loadBytes) 0x98220001) 2 =
      some 0xAABB8001 := by decide

theorem test_lwr_l27 :
    regAfter (run (start .r4000R6000 false false [(1, 0x100), (2, 0xAABBCCDD)] loadBytes) 0x98220002) 2 =
      some 0xAABBFF7F := by decide

/-! ## Stores (section 4.3, 4.4) -/

theorem test_sb_s2 :
    bytesAfter (run (start .r4000R6000 true false [(1, 0x100), (2, 0x12345678)] storeBytes) 0xA0220001) =
      some 0xAA78CCDD := by decide

theorem test_sb_s23 :
    bytesAfter (run (start .r4000R6000 false true [(1, 0x100), (2, 0x12345678)] storeBytes) 0xA0220001) =
      some 0xAABB78DD := by decide

theorem test_sh_s6 :
    bytesAfter (run (start .r4000R6000 true false [(1, 0x100), (2, 0x12345678)] storeBytes) 0xA4220002) =
      some 0xAABB5678 := by decide

theorem test_sh_s7 :
    exceptionAfter (run (start .r4000R6000 false false [(1, 0x100), (2, 0x12345678)] storeBytes) 0xA4220001) =
      some (.mk .addressError false (some 0x00000101) (some .store), 0x1000) := by decide

theorem test_sw_s9 :
    bytesAfter (run (start .r4000R6000 false false [(1, 0x100), (2, 0x12345678)] storeBytes) 0xAC220000) =
      some 0x78563412 := by decide

theorem test_sw_s11 :
    exceptionAfter (run (start .r4000R6000 true false [(1, 0x100), (2, 0x12345678)] storeBytes) 0xAC220002) =
      some (.mk .addressError false (some 0x00000102) (some .store), 0x1000) := by decide

theorem test_swl_s15 :
    bytesAfter (run (start .r4000R6000 true false [(1, 0x100), (2, 0x12345678)] storeBytes) 0xA8220001) =
      some 0xAA123456 := by decide

theorem test_swl_s16 :
    bytesAfter (run (start .r4000R6000 false false [(1, 0x100), (2, 0x12345678)] storeBytes) 0xA8220002) =
      some 0x563412DD := by decide

theorem test_swr_s19 :
    bytesAfter (run (start .r4000R6000 true false [(1, 0x100), (2, 0x12345678)] storeBytes) 0xB8220001) =
      some 0x5678CCDD := by decide

theorem test_swr_s20 :
    bytesAfter (run (start .r4000R6000 false false [(1, 0x100), (2, 0x12345678)] storeBytes) 0xB8220002) =
      some 0xAABB7856 := by decide

/-! ## Jumps, branches and exceptions (95_test_vectors.md sections 5, 6, 8) -/

theorem test_beq_j1 :
    pcAfter (run (start .r4000R6000 true false [(1, 7), (2, 7)] []) 0x10220003) = some (0x1004, 0x1010, true) := by decide

theorem test_beq_j18 :
    pcAfter (run (startAt (start .r4000R6000 true false [] []) 0) 0x1000FFFD) = some (4, 0xFFFFFFF8, true) := by decide

theorem test_bne_j3 :
    pcAfter (run (startAt (start .r4000R6000 true false [(1, 2)] []) 0x1004) 0x1420FFFF) =
      some (0x1008, 0x1004, true) := by decide

theorem test_bne_j13 :
    run (inSlot (start .r4000R6000 true false [] [])) 0x14000004 = .fault .jumpInDelaySlot := rfl

theorem test_j_j7 :
    pcAfter (run (startAt (start .r4000R6000 true false [] []) 0x0FFFFFFC) 0x08000010) =
      some (0x10000000, 0x10000040, true) := by decide

theorem test_jal_j8 :
    regAfter (run (start .r4000R6000 true false [] []) 0x0C000810) 31 = some 0x1008 := by decide

theorem test_jalr_j9 :
    regAfter (run (startAt (start .r4000R6000 true false [(3, 0x3000)] []) 0x2000) 0x00602009) 4 = some 0x2008 := by
  decide

theorem test_jalr_j10 :
    run (start .r4000R6000 true false [(2, 0x2000)] []) 0x00401009 = .fault .jalrSameRegister := rfl

theorem test_jr_j14 :
    pcAfter (run (start .r4000R6000 true false [(2, 0x2002)] []) 0x00400008) = some (0x1004, 0x2002, true) := by decide

theorem test_fetch_misaligned_j14 :
    exceptionAfter (step (startAt (start .r4000R6000 true false [] []) 0x2002)) =
      some (.mk .addressError false (some 0x2002) (some .fetch), 0x2002) := by decide

theorem test_break_d7 :
    exceptionAfter (run (start .r2000R3000 true false [] []) 0x03FFFFCD) =
      some (.mk .breakpoint false none none, 0x1000) := by decide

/-- 60_exceptions.md R217: in a delay slot EPC is the jump's address. -/
theorem test_break_in_delay_slot :
    exceptionAfter (run (inSlot (start .r2000R3000 true false [] [])) 0x0000000D) =
      some (.mk .breakpoint true none none, 0xFFC) := by decide

/-- 40_load_store.md R112: LWL, LWR merge with the value a pending load delivers, not with the register's old content. -/
theorem test_lwr_bypass :
    regAfter (exec (.lwr 2 3 1) { start .r2000R3000 true false [(1, 0x101)] loadBytes with
      pending := some (2, 0x017FFFDD) }) 2 = some 0x017FFF12 := by decide

theorem test_sll_d1 : pcAfter (run (start .r2000R3000 true false [] []) 0) = some (0x1004, 0x1008, false) := by decide

/-! ## Words that are no row, and rows no page describes (95_test_vectors.md section 8) -/

/-- The cells of 30_encoding.md R68, written out: MF, CF, MT, CT, the four branches and CO, then a gamma cell and a lost
one of each table. -/
theorem test_copForm :
    copForm 0b00000100000000000000000001 = .mf 0b100000000000000000001 ∧
    copForm 0b00010100000000000000000001 = .cf 0b100000000000000000001 ∧
    copForm 0b00100100000000000000000001 = .mt 0b100000000000000000001 ∧
    copForm 0b00110100000000000000000001 = .ct 0b100000000000000000001 ∧
    copForm 0b01000000001000000000000001 = .bcf 0b1000000000000001 ∧
    copForm 0b01000000011000000000000001 = .bct 0b1000000000000001 ∧
    copForm 0b01000000101000000000000001 = .bcfl 0b1000000000000001 ∧
    copForm 0b01000000111000000000000001 = .bctl 0b1000000000000001 ∧
    copForm 0b10000000000000000000011000 = .co 0b0000000000000000000011000 ∧
    copForm 0b01110000000000000000000001 = .gammaRs 0b01110 1 ∧ copForm 0b00111000000000000000000001 = .lostRs 0b00111 1 ∧
    copForm 0b01000111100000000000000001 = .gammaRt 0b11110 1 ∧
    copForm 0b01000111110000000000000001 = .lostRt 0b11111 1 := by decide

theorem test_rejected_words :
    decode 0x00000060#32 = .rejected (.nonzeroField "ADD") ∧ decode 0x00200808#32 = .rejected (.nonzeroField "JR") ∧
    decode 0x00221902#32 = .rejected (.nonzeroField "SRL") ∧ decode 0x3C211234#32 = .rejected (.nonzeroField "LUI") ∧
    decode 0x00000001#32 = .rejected .reserved ∧ decode 0x0000000E#32 = .rejected .reserved ∧
    decode 0x0000003E#32 = .rejected .reserved ∧ decode 0x04040000#32 = .rejected .reserved ∧
    decode 0x0000000F#32 = .rejected .lostColumn ∧ decode 0x0000003F#32 = .rejected .lostColumn ∧
    decode 0x041F0000#32 = .rejected .lostColumn ∧ decode 0x1C000000#32 = .rejected .lostColumn ∧
    decode 0xFC000000#32 = .rejected .lostColumn ∧ decode 0x60000000#32 = .rejected .unkeyed ∧
    decode 0xB0000000#32 = .rejected .unkeyed := by decide

theorem test_reserved_d8 :
    exceptionAfter (run (start .r4000R6000 true false [] []) 0x00000001) =
      some (.mk .reservedInstruction false none none, 0x1000) := by decide

theorem test_tge_d15 :
    exceptionAfter (run (start .r2000R3000 true false [] []) 0x00000030) =
      some (.mk .reservedInstruction false none none, 0x1000) := by decide

theorem test_beql_d16 :
    run (start .r4000R6000 true false [] []) 0x50000000 = .refused (.notDescribed "BEQL") := rfl

theorem test_syscall_d13 :
    run (start .r2000R3000 true false [] []) 0x0000000C = .refused (.notDescribed "SYSCALL") := rfl

theorem test_bltzl_d19 :
    run (start .r2000R3000 true false [] []) 0x04020000 = .refused (.notValidOnR2000 "BLTZL") := rfl

theorem test_cop0_d24 :
    run (start .r4000R6000 true false [] []) 0x40000000 =
      .refused (.coprocessorFormNotDescribed "COP0" (.mf 0)) := rfl

/-! ## Witnesses: states and operands that meet the hypotheses of each statement, clause by clause -/

/-- Big-endian R2000/R3000 with an address and a value in registers 1 and 2. -/
def big : State := start .r2000R3000 true false [(1, 0x100), (2, 0x12345678)] []

/-- The same, little-endian, on the R4000/R6000. -/
def little : State := start .r4000R6000 false false [(1, 0x100), (2, 0x12345678)] []

/-- The same with ReverseEndian 1. -/
def reversed : State := start .r4000R6000 true true [(1, 0x100), (2, 0x12345678)] []

/-- A load of register 2 is pending. -/
def loading : State := { big with pending := some (2, 0xAABBCCDD) }

/-- Two registers with the values given. -/
def two (a b : Word) : State := start .r2000R3000 true false [(1, a), (2, b)] []

/-- A mapping answers every reference to addresses 0x100 to 0x1FFF with the exception given. -/
def unmapped (f : TranslationFault) : State :=
  { big with cfg := { big.cfg with mappings := [Mapping.mk 0x100 0x1FFF [.fetch, .load, .store] (.raises f)] } }

/-- Physical addresses 0x100 to 0x1FFF answer with a bus error. -/
def faulty : State := { big with cfg := { big.cfg with busErrors := [(0x100, 0x1FFF)] } }

/-- The state with BREAK at the program counter. -/
def atBreak : State := big.withFetchWord 32 0x0000000D

/-- The sources defined, a destination that is not register 0 and receives no pending load: the guards inside
`ComputesRegister`, `StoresBytes` and the jumps. -/
theorem witness_sources_defined :
    big.defined 1 = true ∧ big.defined 2 = true ∧ big.defined 3 = true ∧ (3 : Reg) ≠ 0#5 ∧
    loading.defined 1 = true ∧ loading.defined 3 = true := by decide

theorem witness_SignedArithmetic_add_fits :
    (two 0x7FFFFFFE 1).defined 1 = true ∧ (two 0x7FFFFFFE 1).defined 2 = true ∧
    fitsSigned (((two 0x7FFFFFFE 1).readGpr 1).toInt + ((two 0x7FFFFFFE 1).readGpr 2).toInt) := by
  unfold fitsSigned; decide

theorem witness_SignedArithmetic_add_overflows :
    (two 0x7FFFFFFF 1).defined 1 = true ∧ (two 0x7FFFFFFF 1).defined 2 = true ∧
    ¬ fitsSigned (((two 0x7FFFFFFF 1).readGpr 1).toInt + ((two 0x7FFFFFFF 1).readGpr 2).toInt) := by
  unfold fitsSigned; decide

theorem witness_SignedArithmetic_addi :
    (two 0x80008000 0).defined 1 = true ∧
    fitsSigned (((two 0x80008000 0).readGpr 1).toInt + (0x8000#16).toInt) ∧
    ¬ fitsSigned (((two 0x80007FFF 0).readGpr 1).toInt + (0x8000#16).toInt) := by unfold fitsSigned; decide

theorem witness_SignedArithmetic_sub :
    (two 0x80000000 1).defined 1 = true ∧ (two 0x80000000 1).defined 2 = true ∧
    fitsSigned (((two 0x80000001 1).readGpr 1).toInt - ((two 0x80000001 1).readGpr 2).toInt) ∧
    ¬ fitsSigned (((two 0x80000000 1).readGpr 1).toInt - ((two 0x80000000 1).readGpr 2).toInt) := by
  unfold fitsSigned; decide

theorem witness_UnsignedArithmetic_pair :
    (Instr.addi 2 1 0x7FFF, Instr.addiu 2 1 0x7FFF) ∈ [(Instr.addi 2 1 0x7FFF, Instr.addiu 2 1 0x7FFF),
      (.add 3 1 2, .addu 3 1 2), (.sub 3 1 2, .subu 3 1 2)] := by decide

theorem witness_LuiAndOri : big.defined 2 = true ∧ (2 : Reg) ≠ 0#5 := by decide

theorem witness_VariableShifts :
    31 = ((two 0xFFFFFFFF 1).readGpr 1).toNat % 32 ∧ 0 = ((two 0x20 1).readGpr 1).toNat % 32 := by decide

theorem witness_CarryRecoveredBySltu :
    big.pending = none ∧ (3 : Reg) ≠ 1 ∧ (3 : Reg) ≠ 0#5 ∧ (4 : Reg) ≠ 0#5 ∧
    2 ^ 32 ≤ ((two 0xFFFFFFFF 1).readGpr 1).toNat + ((two 0xFFFFFFFF 1).readGpr 2).toNat ∧
    ¬ 2 ^ 32 ≤ ((two 0xFFFFFFFE 1).readGpr 1).toNat + ((two 0xFFFFFFFE 1).readGpr 2).toNat := by decide

theorem witness_LoadByte :
    0xFF#32 = big.dataAddress 0xFFFF 1 ∧ addressTranslation big.cfg 0xFF .load = .ok (⟨0x3F, 3#2⟩, false) ∧
    0xFF = big.visibleByte ⟨0x3F, 3#2⟩ ((0xFF#32).toNat % 4) ∧ busErrorAt big.cfg 0xFF = false :=
  ⟨rfl, rfl, rfl, rfl⟩

theorem witness_LoadByte_reversed :
    0x100#32 = reversed.dataAddress 0 1 ∧ addressTranslation reversed.cfg 0x100 .load = .ok (⟨0x40, 0#2⟩, false) ∧
    0x103 = reversed.visibleByte ⟨0x40, 0#2⟩ ((0x100#32).toNat % 4) ∧ busErrorAt reversed.cfg 0x103 = false :=
  ⟨rfl, rfl, rfl, rfl⟩

theorem witness_LoadHalfword :
    0x102#32 = little.dataAddress 2 1 ∧ (0x102#32).toNat % 2 = 0 ∧
    addressTranslation little.cfg 0x102 .load = .ok (⟨0x40, 2#2⟩, false) ∧
    0x102 = little.visibleHalf ⟨0x40, 2#2⟩ ((0x102#32).toNat % 4) ∧ busErrorAt little.cfg 0x102 = false :=
  ⟨rfl, rfl, rfl, rfl, rfl⟩

theorem witness_LoadWord :
    0xFC#32 = big.dataAddress 0xFFFC 1 ∧ (0xFC#32).toNat % 4 = 0 ∧
    addressTranslation big.cfg 0xFC .load = .ok (⟨0x3F, 0#2⟩, false) ∧ 0xFC = PAddr.toNat ⟨0x3F, 0#2⟩ ∧
    busErrorAt big.cfg 0xFC = false := ⟨rfl, rfl, rfl, rfl, rfl⟩

theorem witness_LoadWordLeft_and_Right :
    0x103#32 = big.dataAddress 3 1 ∧ addressTranslation big.cfg 0x103 .load = .ok (⟨0x40, 3#2⟩, false) ∧
    3 = (0x103#32).toNat % 4 ∧ true = big.bigEndianCPU ∧
    busErrorAt big.cfg (if big.cfg.bigEndianMem then big.visibleByte ⟨0x40, 3#2⟩ 3 else 4 * 0x40) = false ∧
    busErrorAt big.cfg (if big.cfg.bigEndianMem then 4 * 0x40 else big.visibleByte ⟨0x40, 3#2⟩ 3) = false :=
  ⟨rfl, rfl, rfl, rfl, rfl, rfl⟩

theorem witness_LoadWordLeft_and_Right_little :
    0x100#32 = little.dataAddress 0 1 ∧ addressTranslation little.cfg 0x100 .load = .ok (⟨0x40, 0#2⟩, false) ∧
    0 = (0x100#32).toNat % 4 ∧ false = little.bigEndianCPU ∧
    busErrorAt little.cfg (if little.cfg.bigEndianMem then little.visibleByte ⟨0x40, 0#2⟩ 0 else 4 * 0x40) = false ∧
    busErrorAt little.cfg (if little.cfg.bigEndianMem then 4 * 0x40 else little.visibleByte ⟨0x40, 0#2⟩ 0) = false :=
  ⟨rfl, rfl, rfl, rfl, rfl, rfl⟩

theorem witness_UnalignedLoadPair :
    (3 : Reg) ≠ 0#5 ∧ (1 : Reg) ≠ 3 ∧ big.defined 1 = true ∧ big.reverseEndian = false ∧ big.cfg.mappings = [] ∧
    big.cfg.busErrors = [] ∧ big.cfg.bigEndianMem = true := by decide

theorem witness_UnalignedLoadPair_little :
    little.defined 1 = true ∧ little.reverseEndian = false ∧ little.cfg.mappings = [] ∧ little.cfg.busErrors = [] ∧
    little.cfg.bigEndianMem = false := by decide

theorem witness_UnalignedLoadPair_bytes :
    ∃ byteAt : Nat → Byte, ∀ i, byteAt i = big.mem.read (big.readGpr 1 + BitVec.ofNat 32 i).toNat := ⟨_, fun _ => rfl⟩

theorem witness_StoreByte :
    0x101#32 = big.dataAddress 1 1 ∧ addressTranslation big.cfg 0x101 .store = .ok (⟨0x40, 1#2⟩, false) ∧
    0x101 = big.visibleByte ⟨0x40, 1#2⟩ ((0x101#32).toNat % 4) ∧ busErrorAt big.cfg 0x101 = false :=
  ⟨rfl, rfl, rfl, rfl⟩

theorem witness_StoreHalfword :
    0x100#32 = reversed.dataAddress 0 1 ∧ (0x100#32).toNat % 2 = 0 ∧
    addressTranslation reversed.cfg 0x100 .store = .ok (⟨0x40, 0#2⟩, false) ∧
    0x102 = reversed.visibleHalf ⟨0x40, 0#2⟩ ((0x100#32).toNat % 4) ∧ busErrorAt reversed.cfg 0x102 = false :=
  ⟨rfl, rfl, rfl, rfl, rfl⟩

theorem witness_StoreWord :
    0x104#32 = big.dataAddress 4 1 ∧ (0x104#32).toNat % 4 = 0 ∧
    addressTranslation big.cfg 0x104 .store = .ok (⟨0x41, 0#2⟩, false) ∧ 0x104 = PAddr.toNat ⟨0x41, 0#2⟩ ∧
    busErrorAt big.cfg 0x104 = false := ⟨rfl, rfl, rfl, rfl, rfl⟩

theorem witness_StoreWordLeft_and_Right :
    0x103#32 = big.dataAddress 3 1 ∧ addressTranslation big.cfg 0x103 .store = .ok (⟨0x40, 3#2⟩, false) ∧
    3 = (0x103#32).toNat % 4 ∧ true = big.bigEndianCPU ∧
    busErrorAt big.cfg (if big.cfg.bigEndianMem then big.visibleByte ⟨0x40, 3#2⟩ 3 else 4 * 0x40) = false ∧
    busErrorAt big.cfg (if big.cfg.bigEndianMem then 4 * 0x40 else big.visibleByte ⟨0x40, 3#2⟩ 3) = false :=
  ⟨rfl, rfl, rfl, rfl, rfl, rfl⟩

theorem witness_StoreWordLeft_and_Right_little :
    0x100#32 = little.dataAddress 0 1 ∧ addressTranslation little.cfg 0x100 .store = .ok (⟨0x40, 0#2⟩, false) ∧
    0 = (0x100#32).toNat % 4 ∧ false = little.bigEndianCPU ∧
    busErrorAt little.cfg (if little.cfg.bigEndianMem then little.visibleByte ⟨0x40, 0#2⟩ 0 else 4 * 0x40) = false ∧
    busErrorAt little.cfg (if little.cfg.bigEndianMem then 4 * 0x40 else little.visibleByte ⟨0x40, 0#2⟩ 0) = false :=
  ⟨rfl, rfl, rfl, rfl, rfl, rfl⟩

theorem witness_UnalignedStorePair :
    big.defined 1 = true ∧ big.defined 2 = true ∧ 0x12345678#32 = big.readGpr 2 ∧ big.reverseEndian = false ∧
    big.cfg.mappings = [] ∧ big.cfg.busErrors = [] ∧ big.cfg.bigEndianMem = true := by decide

theorem witness_UnalignedStorePair_little :
    little.defined 1 = true ∧ little.defined 2 = true ∧ 0x12345678#32 = little.readGpr 2 ∧
    little.reverseEndian = false ∧ little.cfg.mappings = [] ∧ little.cfg.busErrors = [] ∧
    little.cfg.bigEndianMem = false := by decide

theorem witness_UnalignedStorePair_places :
    ∃ place : Nat → Nat, ∀ i, place i = (big.readGpr 1 + BitVec.ofNat 32 i).toNat := ⟨_, fun _ => rfl⟩

theorem witness_NarrowLoadsSeeTheStoredWord :
    reversed.defined 1 = true ∧ reversed.defined 2 = true ∧ 0x12345678#32 = reversed.readGpr 2 ∧
    0x100#32 = reversed.readGpr 1 ∧ (0x100#32).toNat % 4 = 0 ∧ reversed.cfg.mappings = [] ∧
    reversed.cfg.busErrors = [] ∧ (3 : Reg) ≠ 0#5 := by decide

theorem witness_ByteOrderSignals :
    reversed.cfg.impl = .r4000R6000 ∧ reversed.sr.getLsbD 28 = true ∧ reversed.mode = .user ∧
    big.cfg.impl = .r2000R3000 := by decide

theorem witness_TranslationKeepsLowBits :
    addressTranslation big.cfg 0xFFFFFFFF .load = .ok (⟨0x3FFFFFFF, 3#2⟩, false) ∧
    addressTranslation (unmapped .tlbModification).cfg 0x100 .store =
      .error ⟨.tlbModification, some 0x100, some .store⟩ := ⟨rfl, rfl⟩

theorem witness_MisalignedAccess :
    0x101#32 = big.dataAddress 1 1 ∧ (0x101#32).toNat % 2 ≠ 0 ∧ 0x102#32 = big.dataAddress 2 1 ∧
    (0x102#32).toNat % 4 ≠ 0 := by decide

theorem witness_TranslationFailure :
    0x100#32 = (unmapped .tlbRefill).dataAddress 0 1 ∧ (0x100#32).toNat % 4 = 0 ∧
    addressTranslation (unmapped .tlbRefill).cfg 0x100 .load = .error ⟨.tlbRefill, some 0x100, some .load⟩ ∧
    addressTranslation (unmapped .tlbRefill).cfg 0x100 .store = .error ⟨.tlbRefill, some 0x100, some .store⟩ ∧
    addressTranslation (unmapped .tlbModification).cfg 0x100 .store =
      .error ⟨.tlbModification, some 0x100, some .store⟩ := ⟨rfl, rfl, rfl, rfl, rfl⟩

theorem witness_BusError :
    0x100#32 = faulty.dataAddress 0 1 ∧ (0x100#32).toNat % 4 = 0 ∧
    addressTranslation faulty.cfg 0x100 .load = .ok (⟨0x40, 0#2⟩, false) ∧
    addressTranslation faulty.cfg 0x100 .store = .ok (⟨0x40, 0#2⟩, false) ∧
    busErrorAt faulty.cfg (faulty.visibleByte ⟨0x40, 0#2⟩ 0) = true ∧
    busErrorAt faulty.cfg (faulty.visibleHalf ⟨0x40, 0#2⟩ 0) = true ∧
    busErrorAt faulty.cfg (PAddr.toNat ⟨0x40, 0#2⟩) = true := ⟨rfl, rfl, rfl, rfl, rfl, rfl, rfl⟩

theorem witness_Branches :
    big.inDelay = false ∧ 0xFFFE1004#32 = BitVec.ofInt 32 (big.pc.toNat + 4 + 4 * (0x8000#16).toInt) ∧
    0x21000#32 = BitVec.ofInt 32 (big.pc.toNat + 4 + 4 * (0x7FFF#16).toInt) := by decide

theorem witness_Jumps :
    big.inDelay = false ∧ opField 0x00200808#32 = 0b000000#6 ∧ functionField 0x00200808#32 = 0b001000#6 ∧
    rdField 0x00200808#32 ≠ 0#5 := by decide

theorem witness_LinkingJumps : big.inDelay = false ∧ (2 : Reg) ≠ 31 ∧ (2 : Reg) = 2 := by decide

theorem witness_OnlyJumps :
    big.raised = none ∧ (∃ t, exec (.beq 1 2 3) big = .next t ∧ t.raised = none) ∧
    (∃ t, exec (.sw 2 0 1) big = .next t ∧ t.raised = none) := ⟨rfl, ⟨_, rfl, rfl⟩, ⟨_, rfl, rfl⟩⟩

theorem witness_JumpsAreRestartable :
    (Instr.jalr 31 2).family = .jump ∧ big.pending = none ∧ big.npc = big.pc + 4#32 ∧
    ∃ t, exec (.jalr 31 2) big = .next t := ⟨rfl, rfl, rfl, _, rfl⟩

theorem witness_RaisingStep_and_TheRunEnds :
    ∃ t, step atBreak = .next t ∧ t.raised = some (.mk .breakpoint false none none) := ⟨_, rfl, rfl⟩

theorem witness_Exceptions_overflow :
    ∃ t info, exec (.add 3 1 2) (two 0x7FFFFFFF 1) = .next t ∧ t.raised = some info ∧ info.kind = .overflow :=
  ⟨_, _, rfl, rfl, rfl⟩

theorem witness_Exceptions_breakpoint :
    ∃ t info, exec (.brk 0xFFFFF) big = .next t ∧ t.raised = some info ∧ info.kind = .breakpoint :=
  ⟨_, _, rfl, rfl, rfl⟩

theorem witness_Exceptions_memory :
    (∃ t info, exec (.lw 2 1 1) big = .next t ∧ t.raised = some info ∧ info.kind = .addressError) ∧
    (∃ t info, exec (.sb 2 0 1) (unmapped .tlbModification) = .next t ∧ t.raised = some info ∧
      info.kind = .tlbModification) := ⟨⟨_, _, rfl, rfl, rfl⟩, ⟨_, _, rfl, rfl, rfl⟩⟩

theorem witness_Exceptions_reserved :
    ∃ t info, exec (.teq 0) big = .next t ∧ t.raised = some info ∧ info.kind = .reservedInstruction :=
  ⟨_, _, rfl, rfl, rfl⟩

theorem witness_FetchExceptions :
    (startAt big 0x1001).raised = none ∧ (startAt big 0x1001).pc.toNat % 4 ≠ 0 ∧
    (startAt (unmapped .tlbInvalid) 0x1000).pc.toNat % 4 = 0 ∧
    addressTranslation (unmapped .tlbInvalid).cfg 0x1000 .fetch = .error ⟨.tlbInvalid, some 0x1000, some .fetch⟩ ∧
    addressTranslation faulty.cfg faulty.pc .fetch = .ok (⟨0x400, 0#2⟩, false) ∧
    busErrorAt faulty.cfg (PAddr.toNat ⟨0x400, 0#2⟩) = true := ⟨rfl, by decide, rfl, rfl, rfl, rfl⟩

theorem witness_EncodeOfDecode : decode 0xAFA2FFFC#32 = .instr (.sw 2 0xFFFC 29) := by decide

theorem witness_ReservedCells :
    (big.withFetchWord 32 1).fetch = .word 1#32 ∧ decode 1#32 = .rejected .reserved := by decide

theorem witness_UndescribedWords :
    opField 0xF0000000#32 = 0b111100#6 ∧ opField 0xFFFFFFFF#32 = 0b111111#6 ∧ opField 0x0000003F#32 = 0b000000#6 ∧
    functionField 0x0000003F#32 = 0b111111#6 ∧ (big.withFetchWord 32 0x60).fetch = .word 0x60#32 ∧
    decode 0x60#32 = .rejected (.nonzeroField "ADD") ∧ Rejected.nonzeroField "ADD" ≠ .reserved := by decide

theorem witness_CoprocessorRows_selection :
    (0b01111#5).toNat < 16 ∧ 0b01111#5 ≠ 0b01000#5 ∧ (0b01111#5).toNat % 8 = 7 ∧ (0b00001#5).toNat % 8 ≠ 7 := by decide

theorem witness_AlphaRows_and_BetaRows : big.cfg.impl = .r2000R3000 ∧ little.cfg.impl = .r4000R6000 := by decide

theorem witness_StepRunsTheDecodedInstruction :
    atBreak.raised = none ∧ atBreak.pc.toNat % 4 = 0 ∧
    addressTranslation atBreak.cfg atBreak.pc .fetch = .ok (⟨0x400, 0#2⟩, false) ∧
    busErrorAt atBreak.cfg (PAddr.toNat ⟨0x400, 0#2⟩) = false ∧ atBreak.written = [] ∧
    decodeBytes atBreak.cfg.bigEndianMem (atBreak.mem.read 0x1000) (atBreak.mem.read 0x1001)
      (atBreak.mem.read 0x1002) (atBreak.mem.read 0x1003) = .instr (.brk 0) :=
  ⟨rfl, rfl, rfl, rfl, rfl, by decide⟩

/-- A store has written a byte of the word at the program counter. -/
def overwritten : State := { atBreak with written := [0x1003] }

theorem witness_StoredWordIsNotFetched :
    overwritten.raised = none ∧ overwritten.pc.toNat % 4 = 0 ∧
    addressTranslation overwritten.cfg overwritten.pc .fetch = .ok (⟨0x400, 0#2⟩, false) ∧
    busErrorAt overwritten.cfg (PAddr.toNat ⟨0x400, 0#2⟩) = false ∧ 0x1003 ∈ overwritten.written ∧
    0x1003 / 4 = 0x400 := ⟨rfl, rfl, rfl, rfl, by decide, rfl⟩

theorem witness_MemoryChangesOnlyByStores :
    ∃ t, exec (.sb 2 0 1) (start .r2000R3000 true false [(1, 0x100), (2, 0x78)] storeBytes) = .next t ∧
      t.mem.read 0x100 ≠
        (start .r2000R3000 true false [(1, 0x100), (2, 0x78)] storeBytes).mem.read 0x100 := ⟨_, rfl, by decide⟩

theorem witness_StepKeeps : atBreak.wf = true ∧ ∃ t, step atBreak = .next t := ⟨by decide, _, rfl⟩

end Sys2Proof.Tests
end

section
/-! PROOFS. What a completed instruction leaves, said once over all instructions (10_state.md R16). -/

namespace Sys2Proof.Machine

/-- What `exec i s` can leave when it goes on: an exception taken, or the lines 8 to 10 of the execution cycle
(10_state.md R16) of the instruction's family. -/
inductive Leaves (i : Instr) (s : State) : State → Prop where
  /-- The instruction raises. No jump or branch does. -/
  | raises (hf : i.family ≠ .jump) (r : Raise) : Leaves i s (s.withException r)
  | computes (hf : i.family = .computational) (rd : Reg) (v : Word) : Leaves i s (s.writeResult rd v).advance
  | loads (hf : i.family = .load) (rt : Reg) (v : Word) : Leaves i s (s.writeLoaded rt v).advance
  | stores (hf : i.family = .store) (ty : AccessType) (d : Word) (p : PAddr) :
      Leaves i s (s.putLanes ty d p).commitPending.advance
  | jumps (hf : i.family = .jump) (hd : s.inDelay = false) (next : Word) :
      Leaves i s (s.commitPending.transfer next)
  /-- A jump that links: JAL and JALR. -/
  | links (hf : i.family = .jump) (hd : s.inDelay = false) (rd : Reg) (v next : Word) :
      Leaves i s ((s.writeResult rd v).transfer next)

section
variable {i : Instr} {s t : State}

theorem Leaves.of_finish {rd : Reg} {v : Word} (hf : i.family = .computational) (h : s.finish rd v = .next t) :
    Leaves i s t := by
  rw [s.finish_next t rd v h]
  exact .computes hf rd v

/-- ADD, ADDI and SUB: Overflow, or the result (41_computational.md R131). -/
theorem Leaves.of_trapOrFinish {overflows : Bool} {r : Raise} {rd : Reg} {v : Word} (hf : i.family = .computational)
    (h : (if overflows then s.takeException r else s.finish rd v) = .next t) : Leaves i s t := by
  split at h
  · rw [s.takeException_next t r h]
    exact .raises (by simp [hf]) r
  · exact .of_finish hf h

theorem Leaves.of_finishLanes {rt : Reg} {r : Except Raise Lanes} {value : Lanes → Word} (hf : i.family = .load)
    (h : s.finishLanes rt r value = .next t) : Leaves i s t := by
  obtain ⟨e, -, rfl⟩ | ⟨m, -, rfl⟩ := s.finishLanes_next t rt r value h
  · exact .raises (by simp [hf]) e
  · exact .loads hf rt (value m)

theorem Leaves.of_finishStore {mask : BitVec 2} {ty : AccessType} {place : PAddr → PAddr} {v d : Word}
    (hf : i.family = .store) (h : s.finishStore (s.storeLanes mask ty place v d) = .next t) : Leaves i s t := by
  obtain ⟨e, -, rfl⟩ | ⟨u, hu, rfl⟩ := s.finishStore_next t _ h
  · exact .raises (by simp [hf]) e
  · obtain ⟨p, -, -, -, rfl⟩ := s.storeLanes_ok u mask ty place v d hu
    exact .stores hf ty d p

theorem Leaves.of_jumpStep {next : Word} (hf : i.family = .jump)
    (h : s.jumpStep (.next (s.commitPending.transfer next)) = .next t) : Leaves i s t := by
  obtain ⟨hd, ho⟩ := s.jumpStep_next t _ h
  cases ho
  exact .jumps hf hd next

theorem Leaves.of_linkStep {rd : Reg} {v next : Word} (hf : i.family = .jump)
    (h : s.jumpStep (.next ((s.writeResult rd v).transfer next)) = .next t) : Leaves i s t := by
  obtain ⟨hd, ho⟩ := s.jumpStep_next t _ h
  cases ho
  exact .links hf hd rd v next

/-- JALR with different registers links; with equal ones it stops (42_jump_branch.md R181). -/
theorem Leaves.of_execJalr {rd rs : Reg} (hf : i.family = .jump) (h : execJalr rd rs s = .next t) :
    Leaves i s t := by
  obtain ⟨hd, ho⟩ := s.jumpStep_next t _ h
  split at ho
  · cases ho
  · cases ho
    exact .links hf hd rd _ _

theorem Leaves.of_takeException {r : Raise} (hf : i.family ≠ .jump) (h : s.takeException r = .next t) :
    Leaves i s t := by
  rw [s.takeException_next t r h]
  exact .raises hf r

theorem Leaves.of_alphaRow {why : Refusal} (hf : i.family ≠ .jump) (h : alphaRow (.refused why) s = .next t) :
    Leaves i s t := by
  obtain ⟨-, rfl⟩ := alphaRow_next _ s t (by simp) h
  exact .raises hf _

end

/-- A beta row is refused on both groups (30_encoding.md R70). -/
theorem betaRow_ne_next (mnemonic : String) (s t : State) : betaRow mnemonic s ≠ .next t := by
  unfold betaRow refuseNamedOnly
  split <;> simp

/-- Everything an instruction can leave when it goes on. -/
theorem exec_next (i : Instr) (s t : State) (h : exec i s = .next t) : Leaves i s t := by
  cases i with
  | add | addi | sub => exact .of_trapOrFinish rfl h
  | addiu | addu | subu | and | andi | or | ori | xor | xori | nor | lui | slt | slti | sltiu | sltu
  | sll | sllv | srl | srlv | sra | srav => exact .of_finish rfl h
  | lb | lbu | lh | lhu | lw | lwl | lwr => exact .of_finishLanes rfl h
  | sb | sh | sw | swl | swr => exact .of_finishStore rfl h
  | beq | bne | j | jr => exact .of_jumpStep rfl h
  | jal => exact .of_linkStep rfl h
  | jalr => exact .of_execJalr rfl h
  | brk => exact .of_takeException nofun h
  | beql | bnel | blezl | ldc1 | ldc2 | sdc1 | sdc2 | tge | tgeu | tlt | tltu | teq | tne =>
    exact .of_alphaRow nofun h
  | bltzl | bgezl | tgei | teqi | tnei | bltzall | bgezall | tgeiu | tlti | tltiu =>
    exact absurd h (betaRow_ne_next _ s t)
  | blez | cop0 | cop1 | cop2 | cop3 | ll | lwc1 | lwc2 | lwc3 | sc | swc1 | swc2 | swc3
  | syscall | mfhi | mthi | mflo | mtlo | mult | multu | div | divu
  | bltz | bgez | bltzal | bgezal => nomatch h

end Sys2Proof.Machine
end

section
/-! PROOFS. The invariant of the machine (O57, O58): the part of it that speaks of storage is kept by every operation,
the part that speaks of the program counter by `advance`, `transfer` and `withException`. -/

namespace Sys2Proof.Machine

/-- The conjuncts of the invariant that do not speak of the program counter or of a recorded outcome. -/
structure State.StorageWf (s : State) : Prop where
  mem : s.mem.wf = true
  written : addressesWf s.written = true
  zero : s.regs[0] = 0#32
  pending : s.pendingWf = true

theorem State.wf_iff (s : State) :
    s.wf = true ↔ s.StorageWf ∧ (s.inDelay = true ∨ s.npc = s.pc + 4#32) ∧ s.raisedWf = true := by
  constructor
  · intro h
    simp only [State.wf, Bool.and_eq_true, Bool.or_eq_true, beq_iff_eq] at h
    obtain ⟨⟨⟨⟨⟨hmem, hwritten⟩, hzero⟩, hpending⟩, hnpc⟩, hraised⟩ := h
    exact ⟨⟨hmem, hwritten, hzero, hpending⟩, hnpc, hraised⟩
  · rintro ⟨⟨hmem, hwritten, hzero, hpending⟩, hnpc, hraised⟩
    simp [State.wf, *]

theorem State.pendingWf_of_none {s : State} (h : s.pending = none) : s.pendingWf = true := by
  simp [State.pendingWf, h]

theorem State.raisedWf_of_none {s : State} (h : s.raised = none) : s.raisedWf = true := by
  simp [State.raisedWf, h]

/-! ## The storage of register 0 -/

/-- No write reaches the storage of register 0 (10_state.md R11). -/
theorem State.setReg_regs_zero (s : State) (r : Reg) (v : Word) : (s.setReg r v).regs[0] = s.regs[0] := by
  rw [State.setReg_regs]
  split
  · rfl
  · have hr : r.toNat ≠ 0 := fun h => ‹¬ r = 0#5› (BitVec.eq_of_toNat_eq h)
    exact Vector.getElem_set_ne _ _ hr

@[simp] theorem State.commitPending_regs_zero (s : State) : s.commitPending.regs[0] = s.regs[0] := by
  unfold State.commitPending
  split
  · exact s.setReg_regs_zero _ _
  · rfl

@[simp] theorem State.writeResult_regs_zero (s : State) (r : Reg) (v : Word) :
    (s.writeResult r v).regs[0] = s.regs[0] :=
  (s.commitPending.setReg_regs_zero r _).trans s.commitPending_regs_zero

@[simp] theorem State.writeLoaded_regs_zero (s : State) (rt : Reg) (v : Word) :
    (s.writeLoaded rt v).regs[0] = s.regs[0] := by
  unfold State.writeLoaded
  split
  · exact s.commitPending_regs_zero
  · exact (s.commitPending.setReg_regs_zero rt v).trans s.commitPending_regs_zero

@[simp] theorem State.withException_regs (s : State) (r : Raise) : (s.withException r).regs = s.commitPending.regs := rfl

/-! ## Every operation keeps the storage well formed -/

/-- A load leaves a register 1 to 31 pending, and on the R2000/R3000 only (10_state.md R18). -/
theorem State.writeLoaded_pendingWf (s : State) (rt : Reg) (v : Word) : (s.writeLoaded rt v).pendingWf = true := by
  cases hi : s.cfg.impl with
  | r2000R3000 =>
    rw [s.writeLoaded_r2000 rt v hi]
    by_cases hr : rt = 0#5
    · exact State.pendingWf_of_none (by simp [hr])
    · simp [State.pendingWf, hr, hi]
  | r4000R6000 => exact State.pendingWf_of_none (by simp [s.writeLoaded_r4000 rt v hi])

section
variable {s : State}

theorem State.StorageWf.commitPending (h : s.StorageWf) : s.commitPending.StorageWf :=
  ⟨by simp [h.mem], by simp [h.written], by simp [h.zero], State.pendingWf_of_none (by simp)⟩

theorem State.StorageWf.writeResult (h : s.StorageWf) (r : Reg) (v : Word) : (s.writeResult r v).StorageWf :=
  ⟨by simp [h.mem], by simp [h.written], by simp [h.zero], State.pendingWf_of_none (by simp)⟩

theorem State.StorageWf.writeLoaded (h : s.StorageWf) (rt : Reg) (v : Word) : (s.writeLoaded rt v).StorageWf :=
  ⟨by simp [h.mem], by simp [h.written], by simp [h.zero], s.writeLoaded_pendingWf rt v⟩

theorem State.StorageWf.putLanes (h : s.StorageWf) (ty : AccessType) (d : Word) (p : PAddr) :
    (s.putLanes ty d p).StorageWf := by
  obtain ⟨hmem, hwritten⟩ := s.wf_putLanes ty d p ⟨h.mem, h.written⟩
  exact ⟨hmem, hwritten, by simp [h.zero], by simpa [State.pendingWf] using h.pending⟩

theorem State.StorageWf.withException (h : s.StorageWf) (r : Raise) : (s.withException r).StorageWf :=
  ⟨by simp [h.mem], by simp [h.written], by simp [h.zero], State.pendingWf_of_none (by simp)⟩

/-! ## The ends of a step establish the rest of the invariant -/

theorem State.StorageWf.advance_wf (h : s.StorageWf) (hr : s.raised = none) : s.advance.wf = true :=
  s.advance.wf_iff.mpr
    ⟨⟨h.mem, h.written, h.zero, h.pending⟩, .inr (by simp), State.raisedWf_of_none (by simpa using hr)⟩

theorem State.StorageWf.transfer_wf (h : s.StorageWf) (hr : s.raised = none) (next : Word) :
    (s.transfer next).wf = true :=
  (s.transfer next).wf_iff.mpr
    ⟨⟨h.mem, h.written, h.zero, h.pending⟩, .inl (by simp), State.raisedWf_of_none (by simpa using hr)⟩

end

/-- Taking an exception records the outcome of 60_exceptions.md R217 and leaves the program counter pair. -/
theorem State.withException_wf {s : State} (h : s.wf = true) (r : Raise) : (s.withException r).wf = true := by
  obtain ⟨hs, hnpc, -⟩ := s.wf_iff.mp h
  refine (State.wf_iff _).mpr ⟨hs.withException r, by simpa using hnpc, ?_⟩
  simp [State.raisedWf, State.restartAddress]

/-- Whatever an instruction leaves, started where no exception is recorded, meets the invariant. -/
theorem Leaves.wf {i : Instr} {s t : State} (h : Leaves i s t) (hs : s.wf = true) (hr : s.raised = none) :
    t.wf = true := by
  have hst : s.StorageWf := (s.wf_iff.mp hs).1
  cases h with
  | raises _ r => exact State.withException_wf hs r
  | computes _ rd v => exact (hst.writeResult rd v).advance_wf (by simpa using hr)
  | loads _ rt v => exact (hst.writeLoaded rt v).advance_wf (by simpa using hr)
  | stores _ ty d p => exact (hst.putLanes ty d p).commitPending.advance_wf (by simpa using hr)
  | jumps _ _ next => exact hst.commitPending.transfer_wf (by simpa using hr) next
  | links _ _ rd v next => exact (hst.writeResult rd v).transfer_wf (by simpa using hr) next

/-- Settles O57: a step takes an exception or runs an instruction, and each keeps the invariant. -/
theorem stepKeepsTheInvariant : Obligations.StepKeepsTheInvariant := by
  intro s t hs h
  obtain ⟨hr, ⟨r, -, rfl⟩ | ⟨w, -, -, rfl⟩ | ⟨w, i, -, -, he⟩⟩ := step_next s t h
  · exact State.withException_wf hs r
  · exact State.withException_wf hs _
  · exact (exec_next i s t he).wf hs hr

/-- Settles O58: at reset nothing is stored, pending or recorded, and `npc` is the following word. -/
theorem resetMeetsTheInvariant : Obligations.ResetMeetsTheInvariant := by
  have hst : State.reset.StorageWf := ⟨rfl, rfl, rfl, State.pendingWf_of_none rfl⟩
  exact State.reset.wf_iff.mpr ⟨hst, .inr rfl, State.raisedWf_of_none rfl⟩

end Sys2Proof.Machine
end

section
/-! PROOFS. The program counter pair after an instruction (O36), and the parts of the state no step changes (O59). -/

namespace Sys2Proof.Machine

/-- Settles O36: by what each family of instructions leaves. -/
theorem onlyJumpsOpenADelaySlot : Obligations.OnlyJumpsOpenADelaySlot := by
  intro i s t _ h ht
  cases exec_next i s t h with
  | raises _ r => simp at ht
  | computes hf rd v => simp [hf]
  | loads hf rt v => simp [hf]
  | stores hf ty d p => simp [hf]
  | jumps hf _ next => simp [hf]
  | links hf _ rd v next => simp [hf]

theorem State.withException_sameFixedParts (s : State) (r : Raise) : s.sameFixedParts (s.withException r) := by
  simp [State.sameFixedParts]

/-- No instruction changes a fixed part: each operation a step ends in leaves them. -/
theorem Leaves.sameFixedParts {i : Instr} {s t : State} (h : Leaves i s t) : s.sameFixedParts t := by
  cases h with
  | raises _ r => exact s.withException_sameFixedParts r
  | computes _ rd v => simp [State.sameFixedParts]
  | loads _ rt v => simp [State.sameFixedParts]
  | stores _ ty d p => simp [State.sameFixedParts]
  | jumps _ _ next => simp [State.sameFixedParts]
  | links _ _ rd v next => simp [State.sameFixedParts]

/-- Settles O59: by the three things a step can do when it goes on. -/
theorem stepKeepsTheFixedParts : Obligations.StepKeepsTheFixedParts := by
  intro s t h
  obtain ⟨-, ⟨r, -, rfl⟩ | ⟨w, -, -, rfl⟩ | ⟨w, i, -, -, he⟩⟩ := step_next s t h
  · exact s.withException_sameFixedParts r
  · exact s.withException_sameFixedParts _
  · exact (exec_next i s t he).sameFixedParts

/-- Settles O10: a read of register 0 and a write to it, for a write alone and for the write of an instruction, which
is left with the commit of a pending load. -/
theorem registerZeroIsConstant : Obligations.RegisterZeroIsConstant := by
  intro s
  refine ⟨s.readGpr_zero, fun v => ⟨s.setReg_zero v, ?_⟩⟩
  exact s.commitPending.setReg_zero _

/-- Settles O60: the values of `State.reset`. -/
theorem resetStateIsTheLaunchState : Obligations.ResetStateIsTheLaunchState := by
  have hrevision : State.reset.revision = launchWord := rfl
  exact ⟨State.reset.readGpr_zero, rfl, rfl, rfl, rfl, by simp [hrevision, launchWord]⟩

end Sys2Proof.Machine
end

section
/-! PROOFS. The fetch of an aligned word that no store has written (O54; 10_state.md R16, 20_memory.md R43). -/

namespace Sys2Proof.Machine

theorem lowBits_toNat (a : Word) : (lowBits a).toNat = a.toNat % 4 := by
  simp [lowBits, BitVec.extractLsb'_toNat]

theorem alignedTo_word_iff (a : Word) : alignedTo 3#2 a = true ↔ a.toNat % 4 = 0 := by
  have hmask : lowBits a &&& 3#2 = lowBits a := BitVec.and_allOnes
  rw [alignedTo, hmask, beq_iff_eq, ← lowBits_toNat]
  exact BitVec.toNat_inj.symm

/-- The physical address of a word-aligned virtual address is that of its memory word (20_memory.md R32). -/
theorem addressTranslation_aligned {c : Config} {v : Word} {a : Access} {p : PAddr} {u : Bool}
    (h : addressTranslation c v a = .ok (p, u)) (hv : v.toNat % 4 = 0) : p.toNat = 4 * p.frame := by
  rw [PAddr.toNat, addressTranslation_low c v a p u h, lowBits_toNat, hv, Nat.add_zero]

/-- The lanes of a memory word are its four bytes in the order of `BigEndianMem` (20_memory.md R37, R54). -/
theorem memoryLanes_word (bigEndian : Bool) (m : Memory) (frame : Nat) :
    (memoryLanes bigEndian m frame).word =
      wordOfBytes bigEndian (m.read (4 * frame)) (m.read (4 * frame + 1)) (m.read (4 * frame + 2))
        (m.read (4 * frame + 3)) := by
  cases bigEndian <;> rfl

theorem State.wordWritten_eq_false {s : State} {frame : Nat} (h : ∀ a ∈ s.written, a / 4 ≠ frame) :
    s.wordWritten frame = false := by
  simpa [State.wordWritten] using h

/-- When the fetch of an aligned word meets no exception and no stored byte, it answers the word of its lanes. -/
theorem State.fetch_eq_word {s : State} {p : PAddr} {u : Bool} (hr : s.raised = none) (hpc : s.pc.toNat % 4 = 0)
    (ht : addressTranslation s.cfg s.pc .fetch = .ok (p, u)) (hb : busErrorAt s.cfg p.toNat = false)
    (hw : ∀ a ∈ s.written, a / 4 ≠ p.frame) :
    s.fetch = .word (memoryLanes s.cfg.bigEndianMem s.mem p.frame).word := by
  simp [State.fetch, State.fetchWord, State.loadMemory, hr, (alignedTo_word_iff s.pc).mpr hpc, ht, hb,
    State.wordWritten_eq_false hw]

/-- A step in which the fetch answers the word of an instruction is that instruction's meaning. -/
theorem step_eq_exec {s : State} {w : Word} {i : Instr} (hw : s.fetch = .word w) (hi : decode w = .instr i) :
    step s = exec i s := by
  simp [step, runWord, hw, hi]

/-- Settles O54: the fetch answers the word of the four bytes, and the step runs it. -/
theorem stepRunsTheDecodedInstruction : Obligations.StepRunsTheDecodedInstruction := by
  intro s p u i hr hpc ht hb hw hi
  refine step_eq_exec (State.fetch_eq_word hr hpc ht hb hw) ?_
  rw [addressTranslation_aligned ht hpc] at hi
  rw [memoryLanes_word]
  exact hi

end Sys2Proof.Machine
end

section
/-! PROOFS. Taking an exception, and the exceptions of a fetch (O43, O55; 60_exceptions.md R217 to R222, 20_memory.md
R50). -/

namespace Sys2Proof.Machine

theorem State.arrived_of_idle {s : State} (h : s.pending = none) (x : Reg) : s.arrived x = s.readGpr x := by
  simp only [State.arrived, h]

theorem State.arrived_of_pending {s : State} {p : Reg} {v : Word} (h : s.pending = some (p, v)) (x : Reg) :
    s.arrived x = if x = p ∧ x ≠ 0#5 then v else s.readGpr x := by
  simp only [State.arrived, h]

/-- Line 8a (10_state.md R16): once the pending load commits, every register holds what has arrived. -/
theorem State.commitPending_arrives (s : State) : RegistersArrive s s.commitPending := by
  refine ⟨fun x => ?_, s.commitPending_pending⟩
  cases h : s.pending with
  | none => rw [s.commitPending_none h, State.arrived_of_idle h]
  | some load =>
    obtain ⟨p, v⟩ := load
    have hzero : x = p ∧ p ≠ 0#5 ↔ x = p ∧ x ≠ 0#5 := and_congr_right (by rintro rfl; rfl)
    rw [s.commitPending_some p v h, State.readGpr_clearPending, State.readGpr_setReg, State.arrived_of_pending h]
    simp only [hzero]

/-- The state an exception leaves is the one R217, R219 and R220 describe. -/
theorem State.withException_takes (s : State) (r : Raise) :
    TakesException s (s.withException r) r.kind r.badVAddr r.access :=
  ⟨s.withException_raised r, s.withException_epc r, s.withException_pc r, s.withException_npc r,
    s.withException_inDelay r, s.commitPending_arrives, fun _ => by rw [s.withException_mem],
    s.withException_written r, s.withException_sameFixedParts r⟩

section
variable {s : State}

/-! ## The fetch in the order of checks of R222 -/

theorem State.fetch_of_misaligned (hr : s.raised = none) (hpc : s.pc.toNat % 4 ≠ 0) :
    s.fetch = .raises (.misaligned s.pc .fetch) := by
  have ha : ¬ alignedTo 3#2 s.pc = true := mt (alignedTo_word_iff s.pc).mp hpc
  simp [State.fetch, hr, ha]

theorem State.fetch_of_translation_error {r : Raise} (hr : s.raised = none) (hpc : s.pc.toNat % 4 = 0)
    (ht : addressTranslation s.cfg s.pc .fetch = .error r) : s.fetch = .raises r := by
  simp [State.fetch, hr, (alignedTo_word_iff s.pc).mpr hpc, ht]

theorem State.fetch_of_translation_ok {p : PAddr} {u : Bool} (hr : s.raised = none) (hpc : s.pc.toNat % 4 = 0)
    (ht : addressTranslation s.cfg s.pc .fetch = .ok (p, u)) : s.fetch = s.fetchWord p u := by
  simp [State.fetch, hr, (alignedTo_word_iff s.pc).mpr hpc, ht]

theorem State.fetchWord_of_busError {p : PAddr} (u : Bool) (hb : busErrorAt s.cfg p.toNat = true) :
    s.fetchWord p u = .raises (.bus .fetch) := by
  simp [State.fetchWord, State.loadMemory, hb]

/-- A word with a stored byte is refused (20_memory.md R50). -/
theorem State.fetchWord_of_written {p : PAddr} (u : Bool) {a : Nat} (hb : busErrorAt s.cfg p.toNat = false)
    (hw : a ∈ s.written) (ha : a / 4 = p.frame) : s.fetchWord p u = .refuses .storedInstruction := by
  have hany : s.wordWritten p.frame = true := by simpa [State.wordWritten] using ⟨a, hw, ha⟩
  simp [State.fetchWord, State.loadMemory, hb, hany]

/-- An exception at the fetch is taken. -/
theorem step_of_fetch_raises {r : Raise} (h : s.fetch = .raises r) :
    ∃ t, step s = .next t ∧ TakesException s t r.kind r.badVAddr r.access := by
  refine ⟨s.withException r, ?_, s.withException_takes r⟩
  simp [step, h, State.takeException]

end

/-- Settles O43: the three checks of a fetch, in the order of R222. -/
theorem fetchExceptionsAreTaken : Obligations.FetchExceptionsAreTaken := by
  intro s hr
  refine ⟨fun hpc => ?_, fun hpc r ht => ?_, fun hpc p u ht hb => ?_⟩
  · exact step_of_fetch_raises (State.fetch_of_misaligned hr hpc)
  · obtain ⟨hbad, haccess⟩ := addressTranslation_error s.cfg s.pc .fetch r ht
    rw [← hbad, ← haccess]
    exact step_of_fetch_raises (State.fetch_of_translation_error hr hpc ht)
  · have hf : s.fetch = .raises (.bus .fetch) :=
      (State.fetch_of_translation_ok hr hpc ht).trans (State.fetchWord_of_busError u hb)
    exact step_of_fetch_raises hf

/-- Settles O55: the fetch of the word is refused, and so is the step. -/
theorem storedWordIsNotFetched : Obligations.StoredWordIsNotFetched := by
  intro s p u a hr hpc ht hb hw ha
  have hf : s.fetch = .refuses .storedInstruction :=
    (State.fetch_of_translation_ok hr hpc ht).trans (State.fetchWord_of_written u hb hw ha)
  simp [step, hf]

end Sys2Proof.Machine
end

section
/-! PROOFS. Byte order and AddressTranslation (O26, O27; 20_memory.md R32, R39, R40). -/

namespace Sys2Proof.Machine

/-- Settles O26: ReverseEndian in each implementation group; BigEndianCPU is the exclusive or by definition. -/
theorem byteOrderSignals : Obligations.ByteOrderSignals := by
  intro s
  refine ⟨fun hi => ?_, fun hi => ?_, ?_⟩
  · simp [State.reverseEndian, hi]
  · simp [State.reverseEndian, hi]
  · exact congrFun₂ Bool.bne_eq_xor _ _

theorem findMapping_covers {ms : List Mapping} {v : Word} {a : Access} {m : Mapping}
    (h : findMapping ms v a = some m) : mappingCovers m v a = true := by
  induction ms with
  | nil => cases h
  | cons m' rest ih =>
    simp only [findMapping] at h
    split at h
    · cases h
      assumption
    · exact ih h

/-- An exception of AddressTranslation comes from a mapping that answers for this reference. -/
theorem addressTranslation_error_mapping {c : Config} {v : Word} {a : Access} {r : Raise}
    (h : addressTranslation c v a = .error r) :
    ∃ m f, mappingCovers m v a = true ∧ m.result = .raises f ∧ r.kind = translationKind f := by
  unfold addressTranslation at h
  split at h
  · cases h
  · rename_i m hm
    split at h
    · cases h
    · rename_i f hf
      cases h
      exact ⟨m, f, findMapping_covers hm, hf, rfl⟩

theorem translationKind_eq_tlbModification {f : TranslationFault} (h : translationKind f = .tlbModification) :
    f = .tlbModification := by
  cases f with
  | tlbModification => rfl
  | tlbRefill | tlbInvalid | addressError => cases h

theorem translationKind_mem (f : TranslationFault) :
    translationKind f ∈ [ExceptionKind.tlbRefill, .tlbInvalid, .tlbModification, .addressError] := by
  cases f <;> decide

/-- A mapping that answers TLB modification answers for stores only (20_memory.md R32). -/
theorem mappingCovers_tlbModification {m : Mapping} {v : Word} {a : Access} (h : mappingCovers m v a = true)
    (hm : m.result = .raises .tlbModification) : a = .store := by
  simp only [mappingCovers, hm, Bool.and_eq_true] at h
  obtain ⟨-, hstore⟩ := h
  simpa using hstore

/-- Settles O27: a translated address has the low bits of the virtual one; an exception is that of a mapping. -/
theorem translationKeepsLowBits : Obligations.TranslationKeepsLowBits := by
  intro c v access
  refine ⟨fun p u h => ?_, fun r h => ?_⟩
  · have hlow : p.low.toNat = v.toNat % 4 := by rw [addressTranslation_low c v access p u h, lowBits_toNat]
    rw [PAddr.toNat]
    omega
  · obtain ⟨hbad, haccess⟩ := addressTranslation_error c v access r h
    obtain ⟨m, f, hcovers, hresult, hkind⟩ := addressTranslation_error_mapping h
    refine ⟨hbad, haccess, fun hmod => ?_, hkind ▸ translationKind_mem f⟩
    obtain rfl := translationKind_eq_tlbModification (hkind.symm.trans hmod)
    exact mappingCovers_tlbModification hcovers hresult

end Sys2Proof.Machine
end

section
/-! PROOFS. Loads and stores that raise (O28, O30; 20_memory.md R43, R53, 60_exceptions.md R213, R215). -/

namespace Sys2Proof.Machine

theorem alignedTo_byte (a : Word) : alignedTo 0#2 a = true := by simp [alignedTo]

theorem alignedTo_half_iff (a : Word) : alignedTo 1#2 a = true ↔ a.toNat % 2 = 0 := by
  have hlow : lowBits a &&& 1#2 = 0#2 ↔ (lowBits a).toNat % 2 = 0 := by
    rcases bitVec2_cases (lowBits a) with h | h | h | h <;> rw [h] <;> decide
  rw [alignedTo, beq_iff_eq, hlow, lowBits_toNat, Nat.mod_mod_of_dvd a.toNat (by decide)]

/-! ## The physical addresses that are sent to memory, as bytes the program sees -/

theorem lowBits_eq_ofNat (v : Word) : lowBits v = BitVec.ofNat 2 (v.toNat % 4) := by
  rw [← lowBits_toNat, BitVec.ofNat_toNat, BitVec.setWidth_eq]

section
variable {s : State} {p : PAddr} {k : Nat} (hp : p.low = BitVec.ofNat 2 k)
include hp

theorem State.bytePlace_toNat : (s.bytePlace p).toNat = s.visibleByte p k := by
  simp only [State.bytePlace, PAddr.swap, PAddr.toNat, State.visibleByte, hp]

theorem State.halfPlace_toNat : (s.halfPlace p).toNat = s.visibleHalf p k := by
  simp only [State.halfPlace, PAddr.swap, PAddr.toNat, State.visibleHalf, hp]

theorem State.leftPlace_toNat :
    (s.leftPlace p).toNat = if s.cfg.bigEndianMem then s.visibleByte p k else 4 * p.frame := by
  unfold State.leftPlace
  split
  · exact State.bytePlace_toNat hp
  · rfl

theorem State.rightPlace_toNat :
    (s.rightPlace p).toNat = if s.cfg.bigEndianMem then 4 * p.frame else s.visibleByte p k := by
  unfold State.rightPlace
  split
  · rfl
  · exact State.bytePlace_toNat hp

end

/-! ## What the common sequences answer, check by check -/

section
variable {s : State} {mask : BitVec 2} {place : PAddr → PAddr} {v : Word} {p : PAddr} {u : Bool}

theorem State.loadLanes_of_misaligned (ty : AccessType) (h : ¬ alignedTo mask v = true) :
    s.loadLanes mask ty place v = .error (.misaligned v .load) := by
  simp [State.loadLanes, h]

theorem State.loadLanes_of_translation_ok (ty : AccessType) (ha : alignedTo mask v = true)
    (ht : addressTranslation s.cfg v .load = .ok (p, u)) :
    s.loadLanes mask ty place v = s.loadMemory u ty (place p) .load := by
  simp [State.loadLanes, ha, ht]

theorem State.loadLanes_of_busError (ty : AccessType) (ha : alignedTo mask v = true)
    (ht : addressTranslation s.cfg v .load = .ok (p, u)) (hb : busErrorAt s.cfg (place p).toNat = true) :
    s.loadLanes mask ty place v = .error (.bus .load) := by
  simp [State.loadLanes_of_translation_ok ty ha ht, State.loadMemory, hb]

theorem State.storeLanes_of_misaligned (ty : AccessType) (d : Word) (h : ¬ alignedTo mask v = true) :
    s.storeLanes mask ty place v d = .error (.misaligned v .store) := by
  simp [State.storeLanes, State.storeAddress, h]

theorem State.storeLanes_of_translation_ok (ty : AccessType) (d : Word) (ha : alignedTo mask v = true)
    (ht : addressTranslation s.cfg v .store = .ok (p, u)) :
    s.storeLanes mask ty place v d = s.storeMemory u ty d (place p) .store := by
  simp [State.storeLanes, State.storeAddress, ha, ht]

theorem State.storeLanes_of_busError (ty : AccessType) (d : Word) (ha : alignedTo mask v = true)
    (ht : addressTranslation s.cfg v .store = .ok (p, u)) (hb : busErrorAt s.cfg (place p).toNat = true) :
    s.storeLanes mask ty place v d = .error (.bus .store) := by
  simp [State.storeLanes_of_translation_ok ty d ha ht, State.storeMemory, hb]

/-- A load that raises takes the exception. -/
theorem State.finishLanes_takes {lanes : Except Raise Lanes} {e : Raise} (h : lanes = .error e) (rt : Reg)
    (value : Lanes → Word) :
    ∃ t, s.finishLanes rt lanes value = .next t ∧ TakesException s t e.kind e.badVAddr e.access :=
  ⟨s.withException e, by rw [h]; rfl, s.withException_takes e⟩

/-- A store that raises takes the exception. -/
theorem State.finishStore_takes {stored : Except Raise State} {e : Raise} (h : stored = .error e) :
    ∃ t, s.finishStore stored = .next t ∧ TakesException s t e.kind e.badVAddr e.access :=
  ⟨s.withException e, by rw [h]; rfl, s.withException_takes e⟩

/-- A load whose physical address answers with a bus error takes Bus Error. -/
theorem State.load_takes_busError {rt : Reg} {ty : AccessType} {value : Lanes → Word}
    (ht : addressTranslation s.cfg v .load = .ok (p, u)) (ha : alignedTo mask v = true)
    (hb : busErrorAt s.cfg (place p).toNat = true) :
    ∃ t, s.finishLanes rt (s.loadLanes mask ty place v) value = .next t ∧
      TakesException s t .busError none (some .load) :=
  State.finishLanes_takes (State.loadLanes_of_busError ty ha ht hb) rt value

/-- A store whose physical address answers with a bus error takes Bus Error. -/
theorem State.store_takes_busError {ty : AccessType} {d : Word}
    (ht : addressTranslation s.cfg v .store = .ok (p, u)) (ha : alignedTo mask v = true)
    (hb : busErrorAt s.cfg (place p).toNat = true) :
    ∃ t, s.finishStore (s.storeLanes mask ty place v d) = .next t ∧
      TakesException s t .busError none (some .store) :=
  State.finishStore_takes (State.storeLanes_of_busError ty d ha ht hb)

end

/-- Settles O28: the alignment check comes first in the sequence of a load and of a store. -/
theorem misalignedAccessRaisesAddressError : Obligations.MisalignedAccessRaisesAddressError := by
  rintro s rt base offset v rfl
  refine ⟨fun hodd => ?_, fun hword => ?_⟩
  · have ha := mt (alignedTo_half_iff _).mp hodd
    exact ⟨State.finishLanes_takes (State.loadLanes_of_misaligned .halfword ha) rt _,
      State.finishLanes_takes (State.loadLanes_of_misaligned .halfword ha) rt _,
      State.finishStore_takes (State.storeLanes_of_misaligned .halfword _ ha)⟩
  · have ha := mt (alignedTo_word_iff _).mp hword
    exact ⟨State.finishLanes_takes (State.loadLanes_of_misaligned .word ha) rt _,
      State.finishStore_takes (State.storeLanes_of_misaligned .word _ ha)⟩

/-- Settles O30: for each of the twelve, the address named is the one its sequence sends to memory. -/
theorem busErrorIsTaken : Obligations.BusErrorIsTaken := by
  rintro s rt base offset v p u k left right rfl rfl rfl rfl
  refine ⟨fun ht i n a hmem hn hb => ?loads, fun ht i n a hmem hn hb => ?stores⟩
  all_goals
    have hp := (addressTranslation_low _ _ _ p u ht).trans (lowBits_eq_ofNat _)
    simp only [List.mem_cons, Prod.mk.injEq, List.not_mem_nil, or_false] at hmem
  case loads =>
    obtain ⟨rfl, rfl, rfl⟩ | ⟨rfl, rfl, rfl⟩ | ⟨rfl, rfl, rfl⟩ | ⟨rfl, rfl, rfl⟩ | ⟨rfl, rfl, rfl⟩ |
      ⟨rfl, rfl, rfl⟩ | ⟨rfl, rfl, rfl⟩ := hmem
    · exact State.load_takes_busError ht (alignedTo_byte _) (State.bytePlace_toNat hp ▸ hb)
    · exact State.load_takes_busError ht (alignedTo_byte _) (State.bytePlace_toNat hp ▸ hb)
    · exact State.load_takes_busError ht ((alignedTo_half_iff _).mpr hn) (State.halfPlace_toNat hp ▸ hb)
    · exact State.load_takes_busError ht ((alignedTo_half_iff _).mpr hn) (State.halfPlace_toNat hp ▸ hb)
    · exact State.load_takes_busError ht ((alignedTo_word_iff _).mpr hn) hb
    · exact State.load_takes_busError ht (alignedTo_byte _) (State.leftPlace_toNat hp ▸ hb)
    · exact State.load_takes_busError ht (alignedTo_byte _) (State.rightPlace_toNat hp ▸ hb)
  case stores =>
    obtain ⟨rfl, rfl, rfl⟩ | ⟨rfl, rfl, rfl⟩ | ⟨rfl, rfl, rfl⟩ | ⟨rfl, rfl, rfl⟩ | ⟨rfl, rfl, rfl⟩ := hmem
    · exact State.store_takes_busError ht (alignedTo_byte _) (State.bytePlace_toNat hp ▸ hb)
    · exact State.store_takes_busError ht ((alignedTo_half_iff _).mpr hn) (State.halfPlace_toNat hp ▸ hb)
    · exact State.store_takes_busError ht ((alignedTo_word_iff _).mpr hn) hb
    · exact State.store_takes_busError ht (alignedTo_byte _) (State.leftPlace_toNat hp ▸ hb)
    · exact State.store_takes_busError ht (alignedTo_byte _) (State.rightPlace_toNat hp ▸ hb)

end Sys2Proof.Machine
end

section
/-! PROOFS. Memory changes only by stores (O56; 20_memory.md R34, R44, R50). -/

namespace Sys2Proof.Machine

/-- The record of stored addresses accounts for every byte that changes from one state to the other, and only grows
(20_memory.md R50). -/
def RecordsChanges (s t : State) : Prop :=
  ∀ a, (t.mem.read a ≠ s.mem.read a → a ∈ t.written) ∧ (a ∈ s.written → a ∈ t.written)

section
variable {s t u : State}

theorem RecordsChanges.of_same (hm : t.mem = s.mem) (hw : t.written = s.written) : RecordsChanges s t := by
  simp [RecordsChanges, hm, hw]

theorem RecordsChanges.trans (hst : RecordsChanges s t) (htu : RecordsChanges t u) : RecordsChanges s u := by
  intro a
  obtain ⟨hchanged, hkept⟩ := hst a
  obtain ⟨hchanged', hkept'⟩ := htu a
  refine ⟨fun hne => ?_, fun hw => hkept' (hkept hw)⟩
  by_cases heq : u.mem.read a = t.mem.read a
  · exact hkept' (hchanged (heq ▸ hne))
  · exact hchanged' heq

end

theorem State.putByte_recordsChanges (s : State) (a : Nat) (b : Byte) : RecordsChanges s (s.putByte a b) := by
  intro a'
  simp only [State.putByte_mem, State.putByte_written, mem_markAddress, Memory.read_write]
  refine ⟨fun hne => .inl ?_, .inr⟩
  by_contra ha
  exact hne (if_neg ha)

theorem State.putLane_recordsChanges (s : State) (ty : AccessType) (d : Word) (p : PAddr) (k : BitVec 2) :
    RecordsChanges s (s.putLane ty d p k) := by
  unfold State.putLane
  split
  · exact s.putByte_recordsChanges _ _
  · exact .of_same rfl rfl

theorem State.putLanes_recordsChanges (s : State) (ty : AccessType) (d : Word) (p : PAddr) :
    RecordsChanges s (s.putLanes ty d p) :=
  (((s.putLane_recordsChanges ty d p _).trans (State.putLane_recordsChanges _ ty d p _)).trans
    (State.putLane_recordsChanges _ ty d p _)).trans (State.putLane_recordsChanges _ ty d p _)

/-- An instruction that is no store leaves memory and the record of stored addresses. -/
theorem Leaves.memory_of_not_store {i : Instr} {s t : State} (h : Leaves i s t) (hf : i.family ≠ .store) :
    t.mem = s.mem ∧ t.written = s.written := by
  cases h with
  | raises _ r => simp
  | computes _ rd v => simp
  | loads _ rt v => simp
  | stores hs ty d p => exact absurd hs hf
  | jumps _ _ next => simp
  | links _ _ rd v next => simp

/-- A store that goes on has raised, or put its bytes. -/
theorem Leaves.recordsChanges_of_store {i : Instr} {s t : State} (h : Leaves i s t) (hf : i.family = .store) :
    RecordsChanges s t := by
  cases h with
  | raises _ r => exact .of_same (by simp) (by simp)
  | stores _ ty d p => exact (s.putLanes_recordsChanges ty d p).trans (.of_same (by simp) (by simp))
  | computes hc | loads hc | jumps hc | links hc => simp [hf] at hc

/-- Settles O56: by what each family of instructions leaves. -/
theorem memoryChangesOnlyByStores : Obligations.MemoryChangesOnlyByStores := by
  intro i s t a h
  by_cases hf : i.family = .store
  · obtain ⟨hchanged, hkept⟩ := (exec_next i s t h).recordsChanges_of_store hf a
    exact ⟨fun hne => ⟨hf, hchanged hne⟩, hkept⟩
  · obtain ⟨hmem, hwritten⟩ := (exec_next i s t h).memory_of_not_store hf
    simp [hmem, hwritten]

end Sys2Proof.Machine
end

section
/-! PROOFS. A stored word and the loads that see it (O25; 20_memory.md R37, R42, R47). -/

namespace Sys2Proof.Machine

/-! ## Registers at rest -/

theorem State.defined_iff_of_pending {s : State} {p : Reg} {v : Word} (h : s.pending = some (p, v)) (x : Reg) :
    s.defined x = true ↔ x = 0#5 ∨ x ≠ p := by
  simp only [State.defined, h, Bool.or_eq_true, beq_iff_eq, bne_iff_ne]

/-- A defined source reads what the register holds (70_reset_and_hazards.md R255). -/
theorem State.readOperand_of_defined {s : State} {x : Reg} (h : s.defined x = true) (place : Place) :
    s.readOperand place x = s.readGpr x := by
  unfold State.readOperand
  split
  · next hx => rw [hx, s.readGpr_zero]
  · next hx =>
    have hidle : ¬ s.inLoadDelay x = true := by
      rw [s.inLoadDelay_iff]
      rintro ⟨v, hv⟩
      exact ((State.defined_iff_of_pending hv x).mp h).elim hx (· rfl)
    rw [if_neg hidle]

theorem State.arrived_of_defined {s : State} {x : Reg} (h : s.defined x = true) : s.arrived x = s.readGpr x := by
  cases hpend : s.pending with
  | none => exact State.arrived_of_idle hpend x
  | some load =>
    obtain ⟨p, v⟩ := load
    rw [State.arrived_of_pending hpend]
    refine if_neg fun ⟨hxp, hx⟩ => ?_
    exact ((State.defined_iff_of_pending hpend x).mp h).elim hx (· hxp)

theorem State.defined_of_idle {s : State} (h : s.pending = none) (x : Reg) : s.defined x = true := by
  simp [State.defined, h]

/-- A loaded register holds its value once the load has arrived, in either implementation group (40_load_store.md
R103). -/
theorem State.arrived_writeLoaded (s : State) {rt : Reg} (hrt : rt ≠ 0#5) (v : Word) :
    (s.writeLoaded rt v).advance.arrived rt = v := by
  cases hi : s.cfg.impl with
  | r2000R3000 => simp [s.writeLoaded_r2000 rt v hi, State.arrived, hrt]
  | r4000R6000 => simp [s.writeLoaded_r4000 rt v hi, State.arrived, State.readGpr_setReg, hrt]

/-! ## The lanes of a stored word -/

/-- The lanes of a 32-bit value (20_memory.md R37). -/
def lanesOf (w : Word) : Lanes :=
  { lane0 := dataLane w 0#2, lane1 := dataLane w 1#2, lane2 := dataLane w 2#2, lane3 := dataLane w 3#2 }

theorem lanesOf_lane (w : Word) (j : BitVec 2) : (lanesOf w).lane j = registerByte w j.toNat := by
  rcases bitVec2_cases j with rfl | rfl | rfl | rfl <;> rfl

theorem lanesOf_word (w : Word) : (lanesOf w).word = w := by
  have high : dataLane w 3#2 ++ dataLane w 2#2 = w.extractLsb' 16 16 := extract_append w 16 8 8
  have upper24 : w.extractLsb' 16 16 ++ dataLane w 1#2 = w.extractLsb' 8 24 := extract_append w 8 16 8
  have whole : w.extractLsb' 8 24 ++ dataLane w 0#2 = w.extractLsb' 0 32 := extract_append w 0 24 8
  rw [Lanes.word, lanesOf, high, upper24, whole, BitVec.extractLsb'_eq_self]

/-- The half lanes a halfword at offset 0 of the word uses (40_load_store.md R107). -/
theorem lanesOf_half_first (w : Word) (bigEndian : Bool) :
    (lanesOf w).half (0#2 ^^^ upper bigEndian) = w.extractLsb' (if bigEndian then 16 else 0) 16 := by
  cases bigEndian with
  | true => exact extract_append w 16 8 8
  | false => exact extract_append w 0 8 8

/-- The half lanes a halfword at offset 2 of the word uses (40_load_store.md R107). -/
theorem lanesOf_half_second (w : Word) (bigEndian : Bool) :
    (lanesOf w).half (2#2 ^^^ upper bigEndian) = w.extractLsb' (if bigEndian then 0 else 16) 16 := by
  cases bigEndian with
  | true => exact extract_append w 0 8 8
  | false => exact extract_append w 16 8 8

/-- The lane a byte at offset `k` of the word uses (40_load_store.md R105). -/
theorem lanesOf_lane_select (w : Word) (bigEndian : Bool) {k : Nat} (hk : k < 4) :
    (lanesOf w).lane (BitVec.ofNat 2 k ^^^ both bigEndian) = registerByte w (if bigEndian then 3 - k else k) := by
  have hselect : ∀ e : Bool, ∀ k < 4, (BitVec.ofNat 2 k ^^^ both e).toNat = if e then 3 - k else k := by decide
  rw [lanesOf_lane, hselect bigEndian k hk]

theorem laneOf_laneOf (bigEndian : Bool) (k : BitVec 2) : laneOf bigEndian (laneOf bigEndian k) = k := by
  cases bigEndian with
  | true => simp [laneOf]
  | false => rfl

/-- A memory word whose bytes are the lanes of a value is loaded as that value's lanes. -/
theorem memoryLanes_eq_lanesOf {bigEndian : Bool} {m : Memory} {frame : Nat} {w : Word}
    (h : ∀ k : BitVec 2, m.read (4 * frame + k.toNat) = dataLane w (laneOf bigEndian k)) :
    memoryLanes bigEndian m frame = lanesOf w := by
  simp only [memoryLanes, lanesOf, h, laneOf_laneOf]

/-- LoadMemory after StoreMemory of the same word (20_memory.md R47). -/
theorem State.memoryLanes_putLanes_word (s : State) (w : Word) (p : PAddr) (hp : p.low = 0#2) :
    memoryLanes s.cfg.bigEndianMem (s.putLanes .word w p).mem p.frame = lanesOf w := by
  refine memoryLanes_eq_lanesOf fun k => ?_
  have hcovers : coversOffset p .word k = true := by
    have := k.isLt
    simp only [coversOffset, hp, AccessType.value, Bool.and_eq_true, decide_eq_true_eq]
    exact ⟨Nat.zero_le _, by simp; omega⟩
  rw [State.read_putLanes, if_pos hcovers]

/-! ## The sequences without an exception -/

section
variable {s : State} {mask : BitVec 2} {v : Word} {p : PAddr} {u : Bool}

theorem State.loadLanes_of_ok (ty : AccessType) (place : PAddr → PAddr) (ha : alignedTo mask v = true)
    (ht : addressTranslation s.cfg v .load = .ok (p, u)) (hb : busErrorAt s.cfg (place p).toNat = false) :
    s.loadLanes mask ty place v = .ok (memoryLanes s.cfg.bigEndianMem s.mem (place p).frame) := by
  simp [State.loadLanes_of_translation_ok ty ha ht, State.loadMemory, hb]

theorem State.storeLanes_of_ok (ty : AccessType) (place : PAddr → PAddr) (d : Word) (ha : alignedTo mask v = true)
    (ht : addressTranslation s.cfg v .store = .ok (p, u)) (hb : busErrorAt s.cfg (place p).toNat = false) :
    s.storeLanes mask ty place v d = .ok (s.putLanes ty d (place p)) := by
  simp [State.storeLanes_of_translation_ok ty d ha ht, State.storeMemory, hb]

end

theorem busErrorAt_of_none {c : Config} (h : c.busErrors = []) (a : Nat) : busErrorAt c a = false := by
  simp [busErrorAt, h]

/-- The address `k` bytes into an aligned word lies in that word. -/
theorem toNat_add_offset {a : Word} (ha : a.toNat % 4 = 0) {k : Nat} (hk : k < 4) :
    (a + BitVec.ofNat 32 k).toNat = a.toNat + k := by
  have := a.isLt
  rw [BitVec.toNat_add, BitVec.toNat_ofNat]
  omega

theorem dataAddress_of_defined {s : State} {base : Reg} (h : s.defined base = true) (k : Nat) (hk : k < 4) :
    s.dataAddress (BitVec.ofNat 16 k) base = s.readGpr base + BitVec.ofNat 32 k := by
  have hoffset : ∀ k < 4, signExtended (BitVec.ofNat 16 k) = BitVec.ofNat 32 k := by decide
  rw [State.dataAddress, effectiveAddress, State.readOperand_of_defined h, hoffset k hk]

/-! ## A word at the address a register holds, and the loads of its parts -/

/-- Nothing is pending, translation is the identity without bus errors, and the word at the address in `base`, a
multiple of 4, is `w`. -/
structure State.HoldsWord (s : State) (base : Reg) (w : Word) : Prop where
  idle : s.pending = none
  identity : s.cfg.mappings = []
  noBusErrors : s.cfg.busErrors = []
  aligned : (s.readGpr base).toNat % 4 = 0
  lanes : memoryLanes s.cfg.bigEndianMem s.mem ((s.readGpr base).toNat / 4) = lanesOf w

/-- What SW leaves at a multiple of 4 when nothing raises. -/
theorem exec_sw_zero_eq {s : State} {rt base : Reg} (hbase : s.defined base = true) (hrt : s.defined rt = true)
    (ha : (s.readGpr base).toNat % 4 = 0) (hm : s.cfg.mappings = []) (hb : s.cfg.busErrors = []) :
    exec (.sw rt 0 base) s =
      .next (s.putLanes .word (s.readGpr rt) ⟨(s.readGpr base).toNat / 4, 0#2⟩).commitPending.advance := by
  have haddr : s.dataAddress 0 base = s.readGpr base := by
    simpa using dataAddress_of_defined hbase 0 (by decide)
  have htranslation := addressTranslation_identity s.cfg (s.readGpr base) .store hm
  rw [lowBits_eq_ofNat, ha] at htranslation
  have hstore := State.storeLanes_of_ok .word id (s.readGpr rt) ((alignedTo_word_iff _).mpr ha)
    htranslation (busErrorAt_of_none hb _)
  simp only [exec, execSw, haddr, State.readOperand_of_defined hrt, hstore, State.finishStore, id]

/-- SW leaves its word at the address (20_memory.md R47). -/
theorem State.holdsWord_of_putLanes {s : State} {base : Reg} (w : Word) (hbase : s.defined base = true)
    (ha : (s.readGpr base).toNat % 4 = 0) (hm : s.cfg.mappings = []) (hb : s.cfg.busErrors = []) :
    (s.putLanes .word w ⟨(s.readGpr base).toNat / 4, 0#2⟩).commitPending.advance.HoldsWord base w := by
  have hreg : ∀ p, (s.putLanes .word w p).commitPending.advance.readGpr base = s.readGpr base := fun p =>
    calc (s.putLanes .word w p).commitPending.readGpr base
      _ = (s.putLanes .word w p).arrived base := (State.commitPending_arrives _).1 base
      _ = s.arrived base := by simp [State.arrived]
      _ = s.readGpr base := State.arrived_of_defined hbase
  refine ⟨by simp, by simpa using hm, by simpa using hb, by rwa [hreg], ?_⟩
  rw [hreg]
  simpa using s.memoryLanes_putLanes_word w ⟨(s.readGpr base).toNat / 4, 0#2⟩ rfl

section
variable {s : State} {base rl : Reg} {w : Word} {k : Nat}

theorem State.HoldsWord.dataAddress_toNat (h : s.HoldsWord base w) (hk : k < 4) :
    (s.dataAddress (BitVec.ofNat 16 k) base).toNat = (s.readGpr base).toNat + k := by
  rw [dataAddress_of_defined (State.defined_of_idle h.idle base) k hk, toNat_add_offset h.aligned hk]

theorem State.HoldsWord.lowBits_dataAddress (h : s.HoldsWord base w) (hk : k < 4) :
    lowBits (s.dataAddress (BitVec.ofNat 16 k) base) = BitVec.ofNat 2 k := by
  have hmod : ((s.readGpr base).toNat + k) % 4 = k := by
    have := h.aligned
    omega
  rw [lowBits_eq_ofNat, h.dataAddress_toNat hk, hmod]

/-- A load inside the word is given the lanes of the word. -/
theorem State.HoldsWord.load (h : s.HoldsWord base w) (hk : k < 4) (hrl : rl ≠ 0#5) {mask : BitVec 2}
    {ty : AccessType} {place : PAddr → PAddr} {value : Lanes → Word} {v : Word}
    (hplace : ∀ p, (place p).frame = p.frame)
    (ha : alignedTo mask (s.dataAddress (BitVec.ofNat 16 k) base) = true) (hvalue : value (lanesOf w) = v) :
    ∃ x, s.finishLanes rl (s.loadLanes mask ty place (s.dataAddress (BitVec.ofNat 16 k) base)) value = .next x ∧
      x.arrived rl = v := by
  have hframe : ((s.readGpr base).toNat + k) / 4 = (s.readGpr base).toNat / 4 := by
    have := h.aligned
    omega
  have hlanes := State.loadLanes_of_ok ty place ha
    (addressTranslation_identity s.cfg _ .load h.identity) (busErrorAt_of_none h.noBusErrors _)
  rw [hplace, h.dataAddress_toNat hk, hframe, h.lanes] at hlanes
  exact ⟨_, by rw [hlanes]; rfl, (s.arrived_writeLoaded hrl _).trans hvalue⟩

theorem State.HoldsWord.lw (h : s.HoldsWord base w) (hrl : rl ≠ 0#5) :
    ∃ x, exec (.lw rl 0 base) s = .next x ∧ x.arrived rl = w := by
  have ha : (s.dataAddress (BitVec.ofNat 16 0) base).toNat % 4 = 0 := by
    rw [h.dataAddress_toNat (by decide), Nat.add_zero, h.aligned]
  exact h.load (by decide) hrl (fun _ => rfl) ((alignedTo_word_iff _).mpr ha) (lanesOf_word w)

theorem State.HoldsWord.lbu (h : s.HoldsWord base w) (hrl : rl ≠ 0#5) (hk : k < 4) :
    ∃ x, exec (.lbu rl (BitVec.ofNat 16 k) base) s = .next x ∧
      x.arrived rl = (registerByte w (if s.bigEndianCPU then 3 - k else k)).zeroExtend 32 := by
  refine h.load hk hrl (fun _ => rfl) (alignedTo_byte _) ?_
  rw [State.byteSelect, h.lowBits_dataAddress hk, lanesOf_lane_select w _ hk]

theorem State.HoldsWord.lhu (h : s.HoldsWord base w) (hrl : rl ≠ 0#5) (k : Nat) (hk : k < 4) (heven : k % 2 = 0) :
    ∃ x, exec (.lhu rl (BitVec.ofNat 16 k) base) s = .next x ∧
      x.arrived rl = ((lanesOf w).half (BitVec.ofNat 2 k ^^^ upper s.bigEndianCPU)).zeroExtend 32 := by
  have ha : (s.dataAddress (BitVec.ofNat 16 k) base).toNat % 2 = 0 := by
    have := h.aligned
    rw [h.dataAddress_toNat hk]
    omega
  refine h.load hk hrl (fun _ => rfl) ((alignedTo_half_iff _).mpr ha) ?_
  rw [State.halfSelect, h.lowBits_dataAddress hk]

end

/-- Settles O25: the state SW leaves holds the word, and each load inside the word is given its lanes. -/
theorem narrowLoadsSeeTheStoredWord : Obligations.NarrowLoadsSeeTheStoredWord := by
  rintro s rt base rl w a hbase hrt rfl rfl ha hm hb hrl
  have h := State.holdsWord_of_putLanes (s.readGpr rt) hbase ha hm hb
  refine ⟨_, exec_sw_zero_eq hbase hrt ha hm hb, h.lw hrl, ?_⟩
  have hcpu : ∀ p, (s.putLanes .word (s.readGpr rt) p).commitPending.advance.bigEndianCPU = s.bigEndianCPU := by
    simp [State.bigEndianCPU, State.reverseEndian]
  rw [← hcpu ⟨(s.readGpr base).toNat / 4, 0#2⟩]
  refine ⟨fun k hk => h.lbu hrl hk, ?_, ?_⟩
  · rw [← lanesOf_half_first]
    exact h.lhu hrl 0 (by decide) rfl
  · rw [← lanesOf_half_second]
    exact h.lhu hrl 2 (by decide) rfl

end Sys2Proof.Machine
end

section
/-! PROOFS. The four formats of a word, put together and taken apart (O44; 30_encoding.md R61, R72). -/

namespace Sys2Proof

/-- The number two fields side by side denote. -/
theorem append_toNat {m n : Nat} (x : BitVec m) (y : BitVec n) : (x ++ y).toNat = x.toNat * 2 ^ n + y.toNat := by
  rw [BitVec.toNat_append, ← Nat.shiftLeft_add_eq_or_of_lt y.isLt, Nat.shiftLeft_eq]

/-- Settles O44: each field stands above the width of the fields after it. -/
theorem fieldsStandWhereTheFormatsSay : Obligations.FieldsStandWhereTheFormatsSay := by
  refine ⟨fun op rs rt rd sa function => ?_, fun op rs rt immediate => ?_, fun op target => append_toNat op target,
    fun code function => ?_⟩
  · simp only [encodeR, append_toNat]
    omega
  · simp only [encodeI, append_toNat]
    omega
  · simp only [encodeCode, append_toNat, BitVec.toNat_ofNat]
    omega

/-! ## A word is the word of its own fields -/

section
variable (w : Word)

theorem encodeR_fields :
    encodeR (opField w) (rsField w) (rtField w) (rdField w) (saField w) (functionField w) = w := by
  have toRs : opField w ++ rsField w = w.extractLsb' 21 11 := extract_append w 21 6 5
  have toRt : w.extractLsb' 21 11 ++ rtField w = w.extractLsb' 16 16 := extract_append w 16 11 5
  have toRd : w.extractLsb' 16 16 ++ rdField w = w.extractLsb' 11 21 := extract_append w 11 16 5
  have toSa : w.extractLsb' 11 21 ++ saField w = w.extractLsb' 6 26 := extract_append w 6 21 5
  have whole : w.extractLsb' 6 26 ++ functionField w = w.extractLsb' 0 32 := extract_append w 0 26 6
  rw [encodeR, toRs, toRt, toRd, toSa, whole, BitVec.extractLsb'_eq_self]

theorem encodeI_fields : encodeI (opField w) (rsField w) (rtField w) (immField w) = w := by
  have toRs : opField w ++ rsField w = w.extractLsb' 21 11 := extract_append w 21 6 5
  have toRt : w.extractLsb' 21 11 ++ rtField w = w.extractLsb' 16 16 := extract_append w 16 11 5
  have whole : w.extractLsb' 16 16 ++ immField w = w.extractLsb' 0 32 := extract_append w 0 16 16
  rw [encodeI, toRs, toRt, whole, BitVec.extractLsb'_eq_self]

theorem encodeJ_fields : encodeJ (opField w) (targetField w) = w := by
  have whole : opField w ++ targetField w = w.extractLsb' 0 32 := extract_append w 0 6 26
  rw [encodeJ, whole, BitVec.extractLsb'_eq_self]

theorem encodeCode_fields (hop : opField w = 0b000000#6) : encodeCode (codeField w) (functionField w) = w := by
  have toCode : opField w ++ codeField w = w.extractLsb' 6 26 := extract_append w 6 6 20
  have whole : w.extractLsb' 6 26 ++ functionField w = w.extractLsb' 0 32 := extract_append w 0 26 6
  rw [encodeCode, ← hop, toCode, whole, BitVec.extractLsb'_eq_self]

end

end Sys2Proof
end

section
/-! PROOFS. Decoding the word of an instruction (O45, O53; 30_encoding.md R67, R68, R71): one lemma per shape of row,
which takes the row of the decoder's table as a hypothesis over all words. -/

namespace Sys2Proof

theorem decode_of_special {w : Word} (hop : opField w = 0b000000#6) : decode w = decodeSpecial w := by
  rw [decode, hop]
  rfl

theorem decode_of_regimm {w : Word} (hop : opField w = 0b000001#6) : decode w = decodeRegimm w := by
  rw [decode, hop]
  rfl

theorem ifZero_of_true {zero : Bool} (hzero : zero = true) (mnemonic : String) (i : Instr) :
    ifZero zero mnemonic i = .instr i := if_pos hzero

theorem decode_encodeJ {op : BitVec 6} {target : BitVec 26} {i : Instr}
    (hrow : ∀ w, opField w = op → targetField w = target → decode w = .instr i) :
    decode (encodeJ op target) = .instr i :=
  hrow _ (opField_encodeJ ..) (targetField_encodeJ ..)

theorem decode_encodeI {op : BitVec 6} {rs rt : Reg} {immediate : BitVec 16} {i : Instr}
    (hrow : ∀ w, opField w = op → rsField w = rs → rtField w = rt → immField w = immediate → decode w = .instr i) :
    decode (encodeI op rs rt immediate) = .instr i :=
  hrow _ (opField_encodeI ..) (rsField_encodeI ..) (rtField_encodeI ..) (immField_encodeI ..)

theorem decode_encodeI_regimm {rs rt : Reg} {low : BitVec 16} {i : Instr}
    (hrow : ∀ w, rtField w = rt → rsField w = rs → immField w = low → decodeRegimm w = .instr i) :
    decode (encodeI 0b000001#6 rs rt low) = .instr i :=
  (decode_of_regimm (opField_encodeI ..)).trans
    (hrow _ (rtField_encodeI ..) (rsField_encodeI ..) (immField_encodeI ..))

theorem decode_encodeCode {code : BitVec 20} {function : BitVec 6} {i : Instr}
    (hrow : ∀ w, functionField w = function → codeField w = code → decodeSpecial w = .instr i) :
    decode (encodeCode code function) = .instr i :=
  (decode_of_special (opField_encodeCode ..)).trans (hrow _ (functionField_encodeCode ..) (codeField_encodeCode ..))

theorem decode_encodeR {rs rt rd : Reg} {sa : BitVec 5} {function : BitVec 6} {i : Instr}
    (hrow : ∀ w, functionField w = function → rsField w = rs → rtField w = rt → rdField w = rd → saField w = sa →
      decodeSpecial w = .instr i) :
    decode (encodeR 0b000000#6 rs rt rd sa function) = .instr i :=
  (decode_of_special (opField_encodeR ..)).trans
    (hrow _ (functionField_encodeR ..) (rsField_encodeR ..) (rtField_encodeR ..) (rdField_encodeR ..)
      (saField_encodeR ..))

/-- Settles O45: by the shape of the instruction's row. -/
theorem decodeOfEncode : Obligations.DecodeOfEncode := by
  intro i
  cases i with
  | j | jal | blez | cop0 | cop1 | cop2 | cop3 | beql | bnel | blezl | ll | lwc1 | lwc2 | lwc3 | ldc1 | ldc2 | sc
  | swc1 | swc2 | swc3 | sdc1 | sdc2 =>
    refine decode_encodeJ ?_
    rintro w hop rfl
    rw [decode, hop]
    rfl
  | addi | addiu | slti | sltiu | andi | ori | xori | beq | bne | lb | lbu | lh | lhu | lw | lwl | lwr | sb | sh | sw
  | swl | swr =>
    refine decode_encodeI ?_
    rintro w hop rfl rfl rfl
    rw [decode, hop]
    rfl
  | bltz | bgez | bltzal | bgezal | bltzl | bgezl | tgei | teqi | tnei | bltzall | bgezall | tgeiu | tlti | tltiu =>
    refine decode_encodeI_regimm ?_
    rintro w hrt rfl rfl
    rw [decodeRegimm, hrt]
    rfl
  | brk | syscall | mfhi | mthi | mflo | mtlo | mult | multu | div | divu | tge | tgeu | tlt | tltu | teq | tne =>
    refine decode_encodeCode ?_
    rintro w hfunction rfl
    rw [decodeSpecial, hfunction]
    rfl
  | add | addu | sub | subu | and | or | xor | nor | slt | sltu | sllv | srlv | srav =>
    refine decode_encodeR ?_
    rintro w hfunction rfl rfl rfl hsa
    rw [decodeSpecial, hfunction]
    exact ifZero_of_true (by rw [hsa]; rfl) _ _
  | sll | srl | sra =>
    refine decode_encodeR ?_
    rintro w hfunction hrs rfl rfl rfl
    rw [decodeSpecial, hfunction]
    exact ifZero_of_true (by rw [hrs]; rfl) _ _
  | jr =>
    refine decode_encodeR ?_
    rintro w hfunction rfl hrt hrd hsa
    rw [decodeSpecial, hfunction]
    exact ifZero_of_true (by rw [hrt, hrd, hsa]; rfl) _ _
  | jalr =>
    refine decode_encodeR ?_
    rintro w hfunction rfl hrt rfl hsa
    rw [decodeSpecial, hfunction]
    exact ifZero_of_true (by rw [hrt, hsa]; rfl) _ _
  | lui =>
    refine decode_encodeI ?_
    rintro w hop hrs rfl rfl
    rw [decode, hop]
    exact ifZero_of_true (by rw [hrs]; rfl) _ _

/-- A written-out word decodes to the instruction that encodes to it. -/
theorem decode_of_encode_eq {w : Word} {i : Instr} (h : encode i = w) : decode w = .instr i :=
  h ▸ decodeOfEncode i

/-- Settles O53: each word is the word of its instruction. -/
theorem handWrittenWordsDecode : Obligations.HandWrittenWordsDecode :=
  ⟨decode_of_encode_eq rfl, decode_of_encode_eq rfl, decode_of_encode_eq rfl, decode_of_encode_eq rfl,
    decode_of_encode_eq rfl, decode_of_encode_eq rfl, decode_of_encode_eq rfl, decode_of_encode_eq rfl,
    decode_of_encode_eq rfl, decode_of_encode_eq rfl⟩

end Sys2Proof
end

section
/-! PROOFS. What the decoder answers for every word, said once over the three tables (O46, O47, O48; 30_encoding.md
R64, R68, R70, R71, R76). -/

namespace Sys2Proof

/-- The cells of the SPECIAL function table marked `*` (30_encoding.md R70). -/
def reservedFunctions : List (BitVec 6) :=
  [0b000001#6, 0b000101#6, 0b001010#6, 0b001011#6, 0b001110#6, 0b010100#6, 0b010101#6, 0b010110#6, 0b011100#6,
   0b011101#6, 0b011110#6, 0b101000#6, 0b101001#6, 0b101100#6, 0b101101#6, 0b101110#6, 0b110101#6, 0b111000#6,
   0b111001#6, 0b111010#6, 0b111011#6, 0b111100#6, 0b111101#6, 0b111110#6]

/-- The cells of the REGIMM `rt` table marked `*` (30_encoding.md R70). -/
def reservedRegimms : List Reg :=
  [0b00100#5, 0b00101#5, 0b00110#5, 0b01101#5, 0b10100#5, 0b10101#5, 0b10110#5, 0b11000#5, 0b11001#5, 0b11010#5,
   0b11011#5, 0b11100#5, 0b11101#5, 0b11110#5]

/-- What the decoder can answer for a word: an instruction that encodes to it, or a rejection, for which a `*` cell is
named. -/
inductive Answers (w : Word) : Decoded → Prop where
  | row {i : Instr} (h : encode i = w) : Answers w (.instr i)
  | nonzeroField (mnemonic : String) : Answers w (.rejected (.nonzeroField mnemonic))
  | reservedFunction (hop : opField w = 0b000000#6) (hfunction : functionField w ∈ reservedFunctions) :
      Answers w (.rejected .reserved)
  | reservedRegimm (hop : opField w = 0b000001#6) (hrt : rtField w ∈ reservedRegimms) :
      Answers w (.rejected .reserved)
  | unkeyed : Answers w (.rejected .unkeyed)
  | lostColumn : Answers w (.rejected .lostColumn)

section
variable {w : Word}

theorem Answers.ifZero {zero : Bool} {mnemonic : String} {i : Instr} (h : zero = true → encode i = w) :
    Answers w (ifZero zero mnemonic i) := by
  unfold Sys2Proof.ifZero
  split
  · exact .row (h ‹_›)
  · exact .nonzeroField mnemonic

/-! ## The fields of a row, written back -/

theorem encodeJ_of_op {op : BitVec 6} (hop : opField w = op) : encodeJ op (targetField w) = w := by
  rw [← hop, encodeJ_fields]

theorem encodeI_of_op {op : BitVec 6} (hop : opField w = op) :
    encodeI op (rsField w) (rtField w) (immField w) = w := by
  rw [← hop, encodeI_fields]

theorem encodeI_of_op_rt {op : BitVec 6} {rt : Reg} (hop : opField w = op) (hrt : rtField w = rt) :
    encodeI op (rsField w) rt (immField w) = w := by
  rw [← hrt, encodeI_of_op hop]

theorem encodeI_of_op_rs {op : BitVec 6} {rs : Reg} (hop : opField w = op) (hrs : rsField w = rs) :
    encodeI op rs (rtField w) (immField w) = w := by
  rw [← hrs, encodeI_of_op hop]

section
variable (hop : opField w = 0b000000#6) {function : BitVec 6} (hfunction : functionField w = function)
include hop hfunction

theorem encodeCode_of_function : encodeCode (codeField w) function = w := by
  rw [← hfunction, encodeCode_fields w hop]

theorem encodeR_of_function {rs rt rd : Reg} {sa : BitVec 5} (hrs : rsField w = rs) (hrt : rtField w = rt)
    (hrd : rdField w = rd) (hsa : saField w = sa) : encodeR 0b000000#6 rs rt rd sa function = w := by
  rw [← hop, ← hfunction, ← hrs, ← hrt, ← hrd, ← hsa, encodeR_fields]

end

/-! ## The three tables -/

/-- The SPECIAL function table, by the kinds of its cells. -/
theorem decodeSpecial_answers (hop : opField w = 0b000000#6) : Answers w (decodeSpecial w) := by
  unfold decodeSpecial
  split
  -- SLL, SRL, SRA: `rs` is zero
  case h_1 | h_3 | h_4 =>
    exact .ifZero fun hrs => encodeR_of_function hop ‹_› (eq_of_beq hrs) rfl rfl rfl
  -- JR: `rt`, `rd` and `sa` are zero
  case h_9 =>
    refine .ifZero fun hzero => ?_
    obtain ⟨hzero, hsa⟩ := (Bool.and_eq_true _ _).mp hzero
    obtain ⟨hrt, hrd⟩ := (Bool.and_eq_true _ _).mp hzero
    exact encodeR_of_function hop ‹_› rfl (eq_of_beq hrt) (eq_of_beq hrd) (eq_of_beq hsa)
  -- JALR: `rt` and `sa` are zero
  case h_10 =>
    refine .ifZero fun hzero => ?_
    obtain ⟨hrt, hsa⟩ := (Bool.and_eq_true _ _).mp hzero
    exact encodeR_of_function hop ‹_› rfl (eq_of_beq hrt) rfl (eq_of_beq hsa)
  -- SYSCALL, BREAK, MFHI to MTLO, MULT to DIVU, TGE to TEQ, TNE
  case h_13 | h_14 | h_16 | h_17 | h_18 | h_19 | h_23 | h_24 | h_25 | h_26 | h_45 | h_46 | h_47 | h_48 | h_49
      | h_51 => exact .row (encodeCode_of_function hop ‹_›)
  -- the variable shifts, ADD to NOR, SLT, SLTU: `sa` is zero
  case h_5 | h_7 | h_8 | h_30 | h_31 | h_32 | h_33 | h_34 | h_35 | h_36 | h_37 | h_40 | h_41 =>
    exact .ifZero fun hsa => encodeR_of_function hop ‹_› rfl rfl rfl (eq_of_beq hsa)
  case h_59 => exact .lostColumn
  -- the cells marked `*`
  all_goals
    rename_i hfunction
    exact .reservedFunction hop (by rw [hfunction]; decide)

/-- The REGIMM `rt` table, by the kinds of its cells. -/
theorem decodeRegimm_answers (hop : opField w = 0b000001#6) : Answers w (decodeRegimm w) := by
  unfold decodeRegimm
  split
  -- the cells marked `*`
  case h_5 | h_6 | h_7 | h_13 | h_19 | h_20 | h_21 | h_22 | h_23 | h_24 | h_25 | h_26 | h_27 | h_28 =>
    rename_i hrt
    exact .reservedRegimm hop (by rw [hrt]; decide)
  case h_29 => exact .lostColumn
  all_goals exact .row (encodeI_of_op_rt hop ‹_›)

/-- The primary opcode table, by the kinds of its cells. -/
theorem decode_answers (w : Word) : Answers w (decode w) := by
  unfold decode
  split
  case h_1 => exact decodeSpecial_answers ‹_›
  case h_2 => exact decodeRegimm_answers ‹_›
  -- BEQ, BNE, the immediate instructions, the loads and the stores
  case h_5 | h_6 | h_8 | h_9 | h_10 | h_11 | h_12 | h_13 | h_14 | h_30 | h_31 | h_32 | h_33 | h_34 | h_35 | h_36
      | h_37 | h_38 | h_39 | h_40 | h_43 => exact .row (encodeI_of_op ‹_›)
  -- LUI: `rs` is zero
  case h_15 => exact .ifZero fun hrs => encodeI_of_op_rs ‹_› (eq_of_beq hrs)
  case h_23 | h_24 | h_25 | h_26 | h_27 | h_28 | h_29 | h_41 | h_42 | h_48 | h_55 => exact .unkeyed
  case h_58 => exact .lostColumn
  -- J, JAL and the rows with 26 uninterpreted bits
  all_goals exact .row (encodeJ_of_op ‹_›)

end

end Sys2Proof
end

section
/-! PROOFS. The other round trip (O46), and the words that are no row (O47, O48; 30_encoding.md R70, R71, R76). -/

namespace Sys2Proof

theorem extractLsb'_one_of_getLsbD {w k : Nat} {x : BitVec w} (h : x.getLsbD k = true) :
    x.extractLsb' k 1 = 1#1 := by
  apply BitVec.eq_of_getLsbD_eq
  intro i hi
  obtain rfl : i = 0 := by omega
  simp [h]

/-- What a COPz word selects, written back (43_coprocessor.md R191). -/
theorem copRest_copForm (rest : BitVec 26) : copRest (copForm rest) = rest := by
  unfold copForm
  split
  · next hco =>
    have htop : rest.extractLsb' 25 1 = 1#1 := extractLsb'_one_of_getLsbD hco
    have whole : rest.extractLsb' 25 1 ++ rest.extractLsb' 0 25 = rest.extractLsb' 0 26 := extract_append rest 0 1 25
    rw [htop, BitVec.extractLsb'_eq_self] at whole
    exact whole
  · rw [copRest_copMoveForm, copRest_split]

/-- Settles O46: the decoder answers an instruction only where it encodes to the word; a COPz cell is written back. -/
theorem encodeOfDecode : Obligations.EncodeOfDecode := by
  refine ⟨fun w i h => ?_, copRest_copForm⟩
  have ha := decode_answers w
  rw [h] at ha
  cases ha with
  | row henc => exact henc

/-! ## The reserved cells -/

theorem decodeSpecial_of_reserved {w : Word} (h : functionField w ∈ reservedFunctions) :
    decodeSpecial w = .rejected .reserved := by
  generalize hfunction : functionField w = function at h
  fin_cases h <;> (rw [decodeSpecial, hfunction]; rfl)

theorem decodeRegimm_of_reserved {w : Word} (h : rtField w ∈ reservedRegimms) :
    decodeRegimm w = .rejected .reserved := by
  generalize hrt : rtField w = rt at h
  fin_cases h <;> (rw [decodeRegimm, hrt]; rfl)

theorem decode_eq_reserved_iff (w : Word) : decode w = .rejected .reserved ↔
    (opField w = 0b000000#6 ∧ functionField w ∈ reservedFunctions) ∨
    (opField w = 0b000001#6 ∧ rtField w ∈ reservedRegimms) := by
  constructor
  · intro h
    have ha := decode_answers w
    rw [h] at ha
    cases ha with
    | reservedFunction hop hfunction => exact .inl ⟨hop, hfunction⟩
    | reservedRegimm hop hrt => exact .inr ⟨hop, hrt⟩
  · rintro (⟨hop, hfunction⟩ | ⟨hop, hrt⟩)
    · rw [decode_of_special hop, decodeSpecial_of_reserved hfunction]
    · rw [decode_of_regimm hop, decodeRegimm_of_reserved hrt]

end Sys2Proof

namespace Sys2Proof.Machine

/-- A step whose fetch answers a word that is no row (30_encoding.md R71). -/
theorem step_eq_rejectWord {s : State} {w : Word} {why : Rejected} (hw : s.fetch = .word w)
    (hd : decode w = .rejected why) : step s = rejectWord why s := by
  simp [step, runWord, hw, hd]

theorem rejectWord_reserved (s : State) :
    ∃ t, rejectWord .reserved s = .next t ∧ TakesException s t .reservedInstruction none none :=
  ⟨_, rfl, s.withException_takes (.plain .reservedInstruction)⟩

theorem rejectWord_refused {why : Rejected} (h : why ≠ .reserved) (s : State) :
    ∃ r, rejectWord why s = .refused r := by
  cases why with
  | reserved => exact absurd rfl h
  | nonzeroField mnemonic => exact ⟨.nonzeroField mnemonic, rfl⟩
  | unkeyed => exact ⟨.unkeyedOpcode, rfl⟩
  | lostColumn => exact ⟨.lostOpcode, rfl⟩

/-- Settles O47: the reserved cells are those of the two tables, and their words are rejected by the exception. -/
theorem reservedCellsRaise : Obligations.ReservedCellsRaise := by
  refine ⟨fun s w hw hd => ?_, decode_eq_reserved_iff⟩
  rw [step_eq_rejectWord hw hd]
  exact rejectWord_reserved s

/-- Settles O48: each cell by the decoder's table; the step that fetches such a word rejects it. -/
theorem undescribedWordsAreRefused : Obligations.UndescribedWordsAreRefused := by
  refine ⟨fun w hmem => ?_, fun w hmem => ?_, fun w hop hmem => ?_, fun s w why hw hd hwhy => ?_⟩
  · generalize hop : opField w = op at hmem
    fin_cases hmem <;> (rw [decode, hop]; rfl)
  · generalize hop : opField w = op at hmem
    fin_cases hmem <;> (rw [decode, hop]; rfl)
  · rw [decode_of_special hop]
    generalize hfunction : functionField w = function at hmem
    fin_cases hmem <;> (rw [decodeSpecial, hfunction]; rfl)
  · rw [step_eq_rejectWord hw hd]
    exact rejectWord_refused hwhy s

end Sys2Proof.Machine
end

section
/-! PROOFS. The rows marked alpha and beta (O49, O52; 30_encoding.md R70, 60_exceptions.md R216). -/

namespace Sys2Proof.Machine

/-- What each implementation group makes of an alpha row. -/
theorem alphaRow_by_impl (refused : Outcome) (s : State) :
    (s.cfg.impl = .r2000R3000 →
      ∃ t, alphaRow refused s = .next t ∧ TakesException s t .reservedInstruction none none) ∧
    (s.cfg.impl = .r4000R6000 → alphaRow refused s = refused) := by
  refine ⟨fun hi => ⟨s.withException (.plain .reservedInstruction), ?_, s.withException_takes _⟩, fun hi => ?_⟩
  · simp [alphaRow, hi, State.takeException]
  · simp [alphaRow, hi]

/-- What each implementation group makes of a beta row. -/
theorem betaRow_by_impl (mnemonic : String) (s : State) :
    (s.cfg.impl = .r2000R3000 → betaRow mnemonic s = .refused (.notValidOnR2000 mnemonic)) ∧
    (s.cfg.impl = .r4000R6000 → betaRow mnemonic s = .refused (.notDescribed mnemonic)) := by
  refine ⟨fun hi => ?_, fun hi => ?_⟩
  · simp [betaRow, hi]
  · simp [betaRow, hi, refuseNamedOnly]

/-- Settles O49: each row listed runs as an alpha row with its refusal. -/
theorem alphaRowsAreReservedOnR2000 : Obligations.AlphaRowsAreReservedOnR2000 := by
  intro s a c i r hmem
  have hrow : exec i s = alphaRow (.refused r) s := by
    simp only [List.mem_cons, Prod.mk.injEq, List.not_mem_nil, or_false] at hmem
    obtain ⟨rfl, rfl⟩ | ⟨rfl, rfl⟩ | ⟨rfl, rfl⟩ | ⟨rfl, rfl⟩ | ⟨rfl, rfl⟩ | ⟨rfl, rfl⟩ | ⟨rfl, rfl⟩ | ⟨rfl, rfl⟩ |
      ⟨rfl, rfl⟩ | ⟨rfl, rfl⟩ | ⟨rfl, rfl⟩ | ⟨rfl, rfl⟩ | ⟨rfl, rfl⟩ := hmem
    all_goals rfl
  rw [hrow]
  exact alphaRow_by_impl (.refused r) s

/-- Settles O52: each row listed runs as a beta row with its mnemonic. -/
theorem betaRowsAreRefused : Obligations.BetaRowsAreRefused := by
  intro s rs low i m hmem
  have hrow : exec i s = betaRow m s := by
    simp only [List.mem_cons, Prod.mk.injEq, List.not_mem_nil, or_false] at hmem
    obtain ⟨rfl, rfl⟩ | ⟨rfl, rfl⟩ | ⟨rfl, rfl⟩ | ⟨rfl, rfl⟩ | ⟨rfl, rfl⟩ | ⟨rfl, rfl⟩ | ⟨rfl, rfl⟩ | ⟨rfl, rfl⟩ |
      ⟨rfl, rfl⟩ | ⟨rfl, rfl⟩ := hmem
    all_goals rfl
  rw [hrow]
  exact betaRow_by_impl m s

end Sys2Proof.Machine
end

section
/-! PROOFS. Effective addresses, and the exceptions of translation that loads and stores take (O12, O29;
40_load_store.md R100 to R102, 60_exceptions.md R214). -/

namespace Sys2Proof.Machine

/-! ## Effective addresses -/

theorem signExtended_eq_ofInt (offset : BitVec 16) : signExtended offset = BitVec.ofInt 32 offset.toInt := rfl

/-- The sign extension of an offset lies in the lowest or the highest 32 KB. -/
theorem signExtended_reach (offset : BitVec 16) :
    (signExtended offset).toNat ≤ 0x7FFF ∨ 0xFFFF8000 ≤ (signExtended offset).toNat := by
  have hlow : -2 ^ 15 ≤ offset.toInt := offset.le_toInt
  have hhigh : offset.toInt < 2 ^ 15 := offset.toInt_lt
  rw [signExtended_eq_ofInt, BitVec.toNat_ofInt]
  omega

theorem effectiveAddress_eq_ofInt (base : Word) (offset : BitVec 16) :
    effectiveAddress base offset = BitVec.ofInt 32 (base.toNat + offset.toInt) := by
  rw [effectiveAddress, signExtended_eq_ofInt, BitVec.ofInt_add, BitVec.ofInt_natCast, BitVec.ofNat_toNat,
    BitVec.setWidth_eq]

theorem State.dataAddress_of_zero (s : State) (offset : BitVec 16) :
    s.dataAddress offset 0#5 = signExtended offset := by
  simp [State.dataAddress, State.readOperand, effectiveAddress]

/-- Settles O12: a defined base reads its register; register 0 leaves the sign-extended offset alone. -/
theorem effectiveAddressIsBasePlusOffset : Obligations.EffectiveAddressIsBasePlusOffset := by
  intro s offset base
  refine ⟨fun hbase => ?_, ?_⟩
  · rw [State.dataAddress, State.readOperand_of_defined hbase, effectiveAddress_eq_ofInt]
  · rw [s.dataAddress_of_zero]
    exact signExtended_reach offset

/-! ## Exceptions of translation -/

section
variable {s : State} {mask : BitVec 2} {v : Word} {r : Raise}

/-- A load whose address is aligned takes the exception its translation raises. -/
theorem State.load_takes_translation_error (ty : AccessType) (place : PAddr → PAddr) (rt : Reg)
    (value : Lanes → Word) (ht : addressTranslation s.cfg v .load = .error r) (ha : alignedTo mask v = true) :
    ∃ t, s.finishLanes rt (s.loadLanes mask ty place v) value = .next t ∧
      TakesException s t r.kind (some v) (some .load) := by
  obtain ⟨hbad, haccess⟩ := addressTranslation_error s.cfg v .load r ht
  rw [← hbad, ← haccess]
  exact State.finishLanes_takes (by simp [State.loadLanes, ha, ht]) rt value

/-- A store whose address is aligned takes the exception its translation raises. -/
theorem State.store_takes_translation_error (ty : AccessType) (place : PAddr → PAddr) (d : Word)
    (ht : addressTranslation s.cfg v .store = .error r) (ha : alignedTo mask v = true) :
    ∃ t, s.finishStore (s.storeLanes mask ty place v d) = .next t ∧
      TakesException s t r.kind (some v) (some .store) := by
  obtain ⟨hbad, haccess⟩ := addressTranslation_error s.cfg v .store r ht
  rw [← hbad, ← haccess]
  exact State.finishStore_takes (by simp [State.storeLanes, State.storeAddress, ha, ht])

end

/-- Settles O29: in the sequence of each of the twelve the translation comes after the alignment check. -/
theorem translationFailureIsTaken : Obligations.TranslationFailureIsTaken := by
  rintro s rt base offset v r rfl
  refine ⟨fun ht i n hmem hn => ?loads, fun ht i n hmem hn => ?stores⟩
  all_goals simp only [List.mem_cons, Prod.mk.injEq, List.not_mem_nil, or_false] at hmem
  case loads =>
    obtain ⟨rfl, rfl⟩ | ⟨rfl, rfl⟩ | ⟨rfl, rfl⟩ | ⟨rfl, rfl⟩ | ⟨rfl, rfl⟩ | ⟨rfl, rfl⟩ | ⟨rfl, rfl⟩ := hmem
    · exact State.load_takes_translation_error _ _ rt _ ht (alignedTo_byte _)
    · exact State.load_takes_translation_error _ _ rt _ ht (alignedTo_byte _)
    · exact State.load_takes_translation_error _ _ rt _ ht ((alignedTo_half_iff _).mpr hn)
    · exact State.load_takes_translation_error _ _ rt _ ht ((alignedTo_half_iff _).mpr hn)
    · exact State.load_takes_translation_error _ _ rt _ ht ((alignedTo_word_iff _).mpr hn)
    · exact State.load_takes_translation_error _ _ rt _ ht (alignedTo_byte _)
    · exact State.load_takes_translation_error _ _ rt _ ht (alignedTo_byte _)
  case stores =>
    obtain ⟨rfl, rfl⟩ | ⟨rfl, rfl⟩ | ⟨rfl, rfl⟩ | ⟨rfl, rfl⟩ | ⟨rfl, rfl⟩ := hmem
    · exact State.store_takes_translation_error _ _ _ ht (alignedTo_byte _)
    · exact State.store_takes_translation_error _ _ _ ht ((alignedTo_half_iff _).mpr hn)
    · exact State.store_takes_translation_error _ _ _ ht ((alignedTo_word_iff _).mpr hn)
    · exact State.store_takes_translation_error _ _ _ ht (alignedTo_byte _)
    · exact State.store_takes_translation_error _ _ _ ht (alignedTo_byte _)

end Sys2Proof.Machine
end

section
/-! PROOFS. Loads that complete: the byte, the halfword and the word (O13, O14, O15; 40_load_store.md R103, R105 to
R109, 20_memory.md R37, R41). -/

namespace Sys2Proof.Machine

/-! ## What a completed load leaves -/

theorem State.writeLoaded_loads (s : State) (rt : Reg) (v : Word) :
    LoadsRegister s (s.writeLoaded rt v).advance rt v := by
  obtain ⟨hregs, hidle⟩ := s.commitPending_arrives
  unfold LoadsRegister
  cases hi : s.cfg.impl with
  | r2000R3000 =>
    rw [s.writeLoaded_r2000 rt v hi]
    exact ⟨hregs, by rw [State.advance_pending, State.delayWrite_pending, hidle]⟩
  | r4000R6000 =>
    rw [s.writeLoaded_r4000 rt v hi]
    refine ⟨fun x => ?_, hidle⟩
    rw [State.readGpr_advance, State.readGpr_setReg, hregs]

theorem State.writeLoaded_completes (s : State) (rt : Reg) (v : Word) :
    CompletesLoad s (s.writeLoaded rt v).advance rt v :=
  ⟨s.writeLoaded_loads rt v, by simp [Quiet, SameMemory, State.sameFixedParts], by simp [FollowsOn]⟩

/-- A load that meets no exception completes with the value selected from the lanes of its memory word. -/
theorem State.load_completes {s : State} {mask : BitVec 2} {v : Word} {p : PAddr} {u : Bool} (rt : Reg)
    (ty : AccessType) (place : PAddr → PAddr) (value : Lanes → Word) (ha : alignedTo mask v = true)
    (ht : addressTranslation s.cfg v .load = .ok (p, u)) (hb : busErrorAt s.cfg (place p).toNat = false) :
    ∃ t, s.finishLanes rt (s.loadLanes mask ty place v) value = .next t ∧
      CompletesLoad s t rt (value (memoryLanes s.cfg.bigEndianMem s.mem (place p).frame)) :=
  ⟨_, by rw [State.loadLanes_of_ok ty place ha ht hb]; rfl, s.writeLoaded_completes rt _⟩

/-! ## The lanes of a memory word, as the bytes the program sees -/

theorem memoryLanes_lane (bigEndian : Bool) (m : Memory) (frame : Nat) (j : BitVec 2) :
    (memoryLanes bigEndian m frame).lane j = m.read (4 * frame + (laneOf bigEndian j).toNat) := by
  rcases bitVec2_cases j with rfl | rfl | rfl | rfl <;> rfl

/-- ReverseEndian places what BigEndianCPU selects (20_memory.md R40). -/
theorem laneOf_xor_both : ∀ (be re : Bool) (k : BitVec 2), laneOf be (k ^^^ both re) = k ^^^ both (be != re) := by decide

/-- The lane of the byte the program sees at offset `j` is the one a byte access selects (40_load_store.md R105). -/
theorem State.laneOf_visible (s : State) (j : Nat) :
    laneOf s.cfg.bigEndianMem (BitVec.ofNat 2 j ^^^ both s.reverseEndian) =
      BitVec.ofNat 2 j ^^^ both s.bigEndianCPU := by
  rw [laneOf_xor_both, State.bigEndianCPU]

/-- The byte the program sees at offset `j` is in the lane a byte access selects (40_load_store.md R105, R121). -/
theorem State.memoryLanes_lane_select (s : State) (p : PAddr) (j : Nat) :
    (memoryLanes s.cfg.bigEndianMem s.mem p.frame).lane (BitVec.ofNat 2 j ^^^ both s.bigEndianCPU) =
      s.mem.read (s.visibleByte p j) := by
  rw [memoryLanes_lane, ← s.laneOf_visible, laneOf_laneOf, State.visibleByte]

/-- The two lanes of a halfword access, in the order of `BigEndianMem` (20_memory.md R41 (b)). -/
theorem laneOf_select_half :
    ∀ (be re : Bool), ∀ k < 4, k % 2 = 0 →
      (laneOf be (BitVec.ofNat 2 k ^^^ upper (be != re))).toNat =
        (BitVec.ofNat 2 k ^^^ upper re).toNat + (if be then 1 else 0) ∧
      (laneOf be ((BitVec.ofNat 2 k ^^^ upper (be != re)) + 1#2)).toNat =
        (BitVec.ofNat 2 k ^^^ upper re).toNat + (if be then 0 else 1) := by decide

/-- The halfword the program sees at an even offset is the one a halfword access selects (40_load_store.md R107). -/
theorem State.memoryLanes_half_select (s : State) (p : PAddr) {k a : Nat} (hk : k < 4) (heven : k % 2 = 0)
    (ha : a = s.visibleHalf p k) :
    (memoryLanes s.cfg.bigEndianMem s.mem p.frame).half (BitVec.ofNat 2 k ^^^ upper s.bigEndianCPU) =
      if s.cfg.bigEndianMem then s.mem.read a ++ s.mem.read (a + 1) else s.mem.read (a + 1) ++ s.mem.read a := by
  obtain ⟨hlow, hhigh⟩ := laneOf_select_half s.cfg.bigEndianMem s.reverseEndian k hk heven
  rw [Lanes.half, memoryLanes_lane, memoryLanes_lane, State.bigEndianCPU, hlow, hhigh, ha, State.visibleHalf]
  cases s.cfg.bigEndianMem <;> rfl

/-! ## The obligations -/

/-- Settles O13: the byte place is the byte the program sees, and the lane selected is that byte's. -/
theorem loadByteReadsTheByte : Obligations.LoadByteReadsTheByte := by
  rintro s rt base offset v p u a rfl ht rfl hb
  have hp := (addressTranslation_low _ _ _ p u ht).trans (lowBits_eq_ofNat _)
  rw [← State.bytePlace_toNat hp] at hb
  rw [← s.memoryLanes_lane_select, ← lowBits_eq_ofNat]
  exact ⟨State.load_completes rt .byte s.bytePlace _ (alignedTo_byte _) ht hb,
    State.load_completes rt .byte s.bytePlace _ (alignedTo_byte _) ht hb⟩

/-- Settles O14: likewise with the half place and the two lanes of the halfword. -/
theorem loadHalfwordReadsTwoBytes : Obligations.LoadHalfwordReadsTwoBytes := by
  rintro s rt base offset v p u a h rfl heven ht ha hb rfl
  have hp := (addressTranslation_low _ _ _ p u ht).trans (lowBits_eq_ofNat _)
  rw [← s.memoryLanes_half_select p (Nat.mod_lt _ (by decide)) (by omega) ha, ← lowBits_eq_ofNat]
  rw [ha, ← State.halfPlace_toNat hp] at hb
  have haligned := (alignedTo_half_iff _).mpr heven
  exact ⟨State.load_completes rt .halfword s.halfPlace _ haligned ht hb,
    State.load_completes rt .halfword s.halfPlace _ haligned ht hb⟩

/-- Settles O15: an aligned word is the whole memory word. -/
theorem loadWordReadsFourBytes : Obligations.LoadWordReadsFourBytes := by
  rintro s rt base offset v p u a rfl hword ht rfl hb
  have hload := State.load_completes rt .word id Lanes.word ((alignedTo_word_iff _).mpr hword) ht hb
  rw [memoryLanes_word] at hload
  rw [addressTranslation_aligned ht hword]
  exact hload

end Sys2Proof.Machine
end

section
/-! PROOFS. The bytes of the merges of LWL and LWR, and the two loads (O16, O17; 40_load_store.md R110 to R112, R121). -/

namespace Sys2Proof.Machine

/-! ## The bytes of a word -/

theorem registerByte_toNat (w : Word) (l : Nat) : (registerByte w l).toNat = w.toNat / 2 ^ (8 * l) % 2 ^ 8 := by
  rw [registerByte, BitVec.extractLsb'_toNat, Nat.shiftRight_eq_div_pow]

theorem Lanes.word_toNat (m : Lanes) :
    m.word.toNat = ((m.lane3.toNat * 2 ^ 8 + m.lane2.toNat) * 2 ^ 8 + m.lane1.toNat) * 2 ^ 8 + m.lane0.toNat := by
  rw [Lanes.word, append_toNat, append_toNat, append_toNat]

theorem Lanes.lane_eq_registerByte (m : Lanes) (j : BitVec 2) : m.lane j = registerByte m.word j.toNat := by
  apply BitVec.eq_of_toNat_eq
  rw [registerByte_toNat, m.word_toNat]
  rcases bitVec2_cases j with rfl | rfl | rfl | rfl
  · show m.lane0.toNat = _ / 2 ^ 0 % 2 ^ 8
    omega
  · show m.lane1.toNat = _ / 2 ^ 8 % 2 ^ 8
    omega
  · show m.lane2.toNat = _ / 2 ^ 16 % 2 ^ 8
    omega
  · show m.lane3.toNat = _ / 2 ^ 24 % 2 ^ 8
    omega

/-! ## The merges of LWL and LWR -/

section
variable (b : BitVec 2) (m : Lanes) (old : Word)

/-- LWL puts the `b + 1` low bytes of the lanes above the `3 - b` low bytes of the register (40_load_store.md R110). -/
theorem mergeLeft_toNat :
    (mergeLeft b m old).toNat =
      m.word.toNat % 2 ^ (8 * b.toNat + 8) * 2 ^ (24 - 8 * b.toNat) + old.toNat % 2 ^ (24 - 8 * b.toNat) := by
  rcases bitVec2_cases b with rfl | rfl | rfl | rfl
  · show (m.lane0 ++ old.extractLsb' 0 24).toNat = m.word.toNat % 2 ^ 8 * 2 ^ 24 + old.toNat % 2 ^ 24
    rw [append_toNat, BitVec.extractLsb'_toNat, m.word_toNat]
    omega
  · show (m.lane1 ++ m.lane0 ++ old.extractLsb' 0 16).toNat = m.word.toNat % 2 ^ 16 * 2 ^ 16 + old.toNat % 2 ^ 16
    rw [append_toNat, append_toNat, BitVec.extractLsb'_toNat, m.word_toNat]
    omega
  · show (m.lane2 ++ m.lane1 ++ m.lane0 ++ old.extractLsb' 0 8).toNat =
      m.word.toNat % 2 ^ 24 * 2 ^ 8 + old.toNat % 2 ^ 8
    rw [append_toNat, append_toNat, append_toNat, BitVec.extractLsb'_toNat, m.word_toNat]
    omega
  · show m.word.toNat = m.word.toNat % 2 ^ 32 * 2 ^ 0 + old.toNat % 2 ^ 0
    omega

/-- LWR puts the `b` high bytes of the register above the `4 - b` high bytes of the lanes (40_load_store.md R111). -/
theorem mergeRight_toNat :
    (mergeRight b m old).toNat =
      old.toNat / 2 ^ (32 - 8 * b.toNat) * 2 ^ (32 - 8 * b.toNat) + m.word.toNat / 2 ^ (8 * b.toNat) := by
  rcases bitVec2_cases b with rfl | rfl | rfl | rfl
  · show m.word.toNat = old.toNat / 2 ^ 32 * 2 ^ 32 + m.word.toNat / 2 ^ 0
    omega
  · show (old.extractLsb' 24 8 ++ m.lane3 ++ m.lane2 ++ m.lane1).toNat =
      old.toNat / 2 ^ 24 * 2 ^ 24 + m.word.toNat / 2 ^ 8
    rw [append_toNat, append_toNat, append_toNat, BitVec.extractLsb'_toNat, m.word_toNat]
    omega
  · show (old.extractLsb' 16 16 ++ m.lane3 ++ m.lane2).toNat = old.toNat / 2 ^ 16 * 2 ^ 16 + m.word.toNat / 2 ^ 16
    rw [append_toNat, append_toNat, BitVec.extractLsb'_toNat, m.word_toNat]
    omega
  · show (old.extractLsb' 8 24 ++ m.lane3).toNat = old.toNat / 2 ^ 8 * 2 ^ 8 + m.word.toNat / 2 ^ 24
    rw [append_toNat, BitVec.extractLsb'_toNat, m.word_toNat]
    omega

theorem mergeLeft_byte {i : Nat} (hi : i < 4) :
    registerByte (mergeLeft b m old) (3 - i) =
      if i ≤ b.toNat then m.lane (b - BitVec.ofNat 2 i) else registerByte old (3 - i) := by
  rw [Lanes.lane_eq_registerByte]
  apply BitVec.eq_of_toNat_eq
  rw [apply_ite BitVec.toNat]
  simp only [registerByte_toNat, mergeLeft_toNat]
  rcases bitVec2_cases b with rfl | rfl | rfl | rfl
  all_goals interval_cases i <;> simp <;> omega

theorem mergeRight_byte {i : Nat} (hi : i < 4) :
    registerByte (mergeRight b m old) i =
      if i ≤ 3 - b.toNat then m.lane (b + BitVec.ofNat 2 i) else registerByte old i := by
  rw [Lanes.lane_eq_registerByte]
  apply BitVec.eq_of_toNat_eq
  rw [apply_ite BitVec.toNat]
  simp only [registerByte_toNat, mergeRight_toNat]
  rcases bitVec2_cases b with rfl | rfl | rfl | rfl
  all_goals interval_cases i <;> simp <;> omega
end

/-! ## The bytes selected, by the byte order of the program -/

theorem select_toNat : ∀ e : Bool, ∀ k < 4, (BitVec.ofNat 2 k ^^^ both e).toNat = if e then 3 - k else k := by decide

theorem select_toNat_complement :
    ∀ e : Bool, ∀ k < 4, 3 - (BitVec.ofNat 2 k ^^^ both e).toNat = if e then k else 3 - k := by decide

/-- Going left from the addressed byte's lane (40_load_store.md R121, LWL and SWL). -/
theorem select_sub : ∀ e : Bool, ∀ k < 4, ∀ i < 4, i ≤ (if e then 3 - k else k) →
    (BitVec.ofNat 2 k ^^^ both e) - BitVec.ofNat 2 i = BitVec.ofNat 2 (if e then k + i else k - i) ^^^ both e := by
  decide

/-- Going right from the addressed byte's lane (40_load_store.md R121, LWR and SWR). -/
theorem select_add : ∀ e : Bool, ∀ k < 4, ∀ i < 4, i ≤ (if e then k else 3 - k) →
    (BitVec.ofNat 2 k ^^^ both e) + BitVec.ofNat 2 i = BitVec.ofNat 2 (if e then k - i else k + i) ^^^ both e := by
  decide

section
variable (s : State) (p : PAddr) (old : Word) {k i : Nat} (hk : k < 4) (hi : i < 4)
include hk hi

/-- The register bytes LWL leaves (40_load_store.md R121). -/
theorem State.mergeLeft_memoryLanes_byte :
    registerByte (mergeLeft (BitVec.ofNat 2 k ^^^ both s.bigEndianCPU)
      (memoryLanes s.cfg.bigEndianMem s.mem p.frame) old) (3 - i) =
      if i ≤ (if s.bigEndianCPU then 3 - k else k)
      then s.mem.read (s.visibleByte p (if s.bigEndianCPU then k + i else k - i)) else registerByte old (3 - i) := by
  rw [mergeLeft_byte _ _ _ hi, select_toNat _ k hk]
  refine ite_congr rfl (fun hle => ?_) fun _ => rfl
  rw [select_sub _ k hk i hi hle, s.memoryLanes_lane_select]

/-- The register bytes LWR leaves (40_load_store.md R121). -/
theorem State.mergeRight_memoryLanes_byte :
    registerByte (mergeRight (BitVec.ofNat 2 k ^^^ both s.bigEndianCPU)
      (memoryLanes s.cfg.bigEndianMem s.mem p.frame) old) i =
      if i ≤ (if s.bigEndianCPU then k else 3 - k)
      then s.mem.read (s.visibleByte p (if s.bigEndianCPU then k - i else k + i)) else registerByte old i := by
  rw [mergeRight_byte _ _ _ hi, select_toNat_complement _ k hk]
  refine ite_congr rfl (fun hle => ?_) fun _ => rfl
  rw [select_add _ k hk i hi hle, s.memoryLanes_lane_select]

end

/-! ## The obligations -/

@[simp] theorem State.leftPlace_frame (s : State) (p : PAddr) : (s.leftPlace p).frame = p.frame := by
  unfold State.leftPlace
  split <;> rfl

@[simp] theorem State.rightPlace_frame (s : State) (p : PAddr) : (s.rightPlace p).frame = p.frame := by
  unfold State.rightPlace
  split <;> rfl

theorem State.byteSelect_eq (s : State) (v : Word) :
    s.byteSelect v = BitVec.ofNat 2 (v.toNat % 4) ^^^ both s.bigEndianCPU := by
  rw [State.byteSelect, lowBits_eq_ofNat]

/-- The bypass gives LWL and LWR the value a pending load delivers (40_load_store.md R112). -/
theorem State.readMerge_eq_arrived (s : State) (rt : Reg) : s.readMerge rt = s.arrived rt := by
  by_cases hrt : rt = 0#5
  · cases hpend : s.pending <;> simp [State.readMerge, State.arrived, hrt, hpend]
  · cases hpend : s.pending <;> simp [State.readMerge, State.arrived, hrt, hpend, eq_comm]

/-- Settles O16: the load completes with the merge, whose bytes are those of R121. -/
theorem loadWordLeftMergesHighBytes : Obligations.LoadWordLeftMergesHighBytes := by
  rintro s rt base offset v p u k e rfl ht rfl rfl hb
  have hp := (addressTranslation_low _ _ _ p u ht).trans (lowBits_eq_ofNat _)
  rw [← State.leftPlace_toNat hp] at hb
  obtain ⟨t, hexec, hload⟩ := State.load_completes rt (.ofNumber (s.byteSelect _)) s.leftPlace
    (fun m => mergeLeft (s.byteSelect _) m (s.readMerge rt)) (alignedTo_byte _) ht hb
  refine ⟨t, _, hexec, hload, fun i hi => ?_⟩
  rw [s.leftPlace_frame, s.byteSelect_eq, s.readMerge_eq_arrived]
  exact s.mergeLeft_memoryLanes_byte p _ (Nat.mod_lt _ (by decide)) hi

/-- Settles O17: likewise. -/
theorem loadWordRightMergesLowBytes : Obligations.LoadWordRightMergesLowBytes := by
  rintro s rt base offset v p u k e rfl ht rfl rfl hb
  have hp := (addressTranslation_low _ _ _ p u ht).trans (lowBits_eq_ofNat _)
  rw [← State.rightPlace_toNat hp] at hb
  obtain ⟨t, hexec, hload⟩ := State.load_completes rt (.ofNumber (3#2 - s.byteSelect _)) s.rightPlace
    (fun m => mergeRight (s.byteSelect _) m (s.readMerge rt)) (alignedTo_byte _) ht hb
  refine ⟨t, _, hexec, hload, fun i hi => ?_⟩
  rw [s.rightPlace_frame, s.byteSelect_eq, s.readMerge_eq_arrived]
  exact s.mergeRight_memoryLanes_byte p _ (Nat.mod_lt _ (by decide)) hi

end Sys2Proof.Machine
end

section
/-! PROOFS. The pair LWL, LWR at any address (O18; 40_load_store.md R112, R121, R123). -/

namespace Sys2Proof.Machine

/-! ## Where an unaligned word stands -/

/-- The address of register byte `l` of the word at `a`, in the byte order of `BigEndianMem` (40_load_store.md R123). -/
def unalignedPlace (bigEndian : Bool) (a : Word) (l : Nat) : Nat :=
  (a + BitVec.ofNat 32 (if bigEndian then 3 - l else l)).toNat

/-- The offset of LWL and SWL in the pair of R123. -/
def leftOffset (bigEndian : Bool) : Nat := if bigEndian then 0 else 3

/-- The offset of LWR and SWR in the pair of R123. -/
def rightOffset (bigEndian : Bool) : Nat := if bigEndian then 3 else 0

/-- The lowest register byte LWL and SWL transfer: those below it lie in the memory word of LWR and SWR. -/
def leftStart (bigEndian : Bool) (a : Word) : Nat :=
  if bigEndian then a.toNat % 4 else (4 - a.toNat % 4) % 4

/-- Translation is the identity without bus errors, ReverseEndian is 0, and `base` holds the address `a`. -/
structure State.PlainAt (s : State) (base : Reg) (a : Word) : Prop where
  defined : s.defined base = true
  address : s.readGpr base = a
  notReversed : s.reverseEndian = false
  identity : s.cfg.mappings = []
  noBusErrors : s.cfg.busErrors = []

theorem State.visibleByte_of_identity {s : State} (h : s.reverseEndian = false) (v : Word) {j : Nat} (hj : j < 4) :
    s.visibleByte ⟨v.toNat / 4, lowBits v⟩ j = v.toNat / 4 * 4 + j := by
  rw [State.visibleByte, h]
  simp [both]
  omega

section
variable {s : State} {base : Reg} {a : Word} (h : s.PlainAt base a)
include h

theorem State.PlainAt.bigEndianCPU : s.bigEndianCPU = s.cfg.bigEndianMem := by
  simp [State.bigEndianCPU, h.notReversed]

theorem State.PlainAt.dataAddress {k : Nat} (hk : k < 4) :
    s.dataAddress (BitVec.ofNat 16 k) base = a + BitVec.ofNat 32 k := by
  rw [dataAddress_of_defined h.defined k hk, h.address]

/-- The places of LWL and SWL in the pair (40_load_store.md R121). -/
theorem State.PlainAt.leftPlaces {v : Word} (hv : v = a + BitVec.ofNat 32 (leftOffset s.cfg.bigEndianMem)) {i : Nat}
    (hi : i < 4) :
    (i ≤ (if s.bigEndianCPU then 3 - v.toNat % 4 else v.toNat % 4) ↔ leftStart s.cfg.bigEndianMem a ≤ 3 - i) ∧
    (i ≤ (if s.bigEndianCPU then 3 - v.toNat % 4 else v.toNat % 4) →
      s.visibleByte ⟨v.toNat / 4, lowBits v⟩ (if s.bigEndianCPU then v.toNat % 4 + i else v.toNat % 4 - i) =
        unalignedPlace s.cfg.bigEndianMem a (3 - i)) := by
  have := a.isLt
  have hv' := congrArg BitVec.toNat hv
  rw [BitVec.toNat_add, BitVec.toNat_ofNat] at hv'
  rw [h.bigEndianCPU, unalignedPlace, leftStart, BitVec.toNat_add, BitVec.toNat_ofNat]
  cases hbe : s.cfg.bigEndianMem
  all_goals
    simp only [hbe, leftOffset, Bool.false_eq_true, ↓reduceIte] at hv' ⊢
    refine ⟨by omega, fun hle => ?_⟩
    rw [State.visibleByte_of_identity h.notReversed v (by omega)]
    omega

/-- The places of LWR and SWR in the pair (40_load_store.md R121). -/
theorem State.PlainAt.rightPlaces {v : Word} (hv : v = a + BitVec.ofNat 32 (rightOffset s.cfg.bigEndianMem)) {i : Nat}
    (hi : i < 4) :
    (i ≤ (if s.bigEndianCPU then v.toNat % 4 else 3 - v.toNat % 4) ↔
      leftStart s.cfg.bigEndianMem a = 0 ∨ i < leftStart s.cfg.bigEndianMem a) ∧
    (i ≤ (if s.bigEndianCPU then v.toNat % 4 else 3 - v.toNat % 4) →
      s.visibleByte ⟨v.toNat / 4, lowBits v⟩ (if s.bigEndianCPU then v.toNat % 4 - i else v.toNat % 4 + i) =
        unalignedPlace s.cfg.bigEndianMem a i) := by
  have := a.isLt
  have hv' := congrArg BitVec.toNat hv
  rw [BitVec.toNat_add, BitVec.toNat_ofNat] at hv'
  rw [h.bigEndianCPU, unalignedPlace, leftStart, BitVec.toNat_add, BitVec.toNat_ofNat]
  cases hbe : s.cfg.bigEndianMem
  all_goals
    simp only [hbe, rightOffset, Bool.false_eq_true, ↓reduceIte] at hv' ⊢
    refine ⟨by omega, fun hle => ?_⟩
    rw [State.visibleByte_of_identity h.notReversed v (by omega)]
    omega

end

/-! ## What the first instruction of a pair leaves the second -/

theorem State.PlainAt.of_same {s t : State} {base : Reg} {a : Word} (h : s.PlainAt base a)
    (hfixed : s.sameFixedParts t) (hdefined : t.defined base = true) (hreg : t.readGpr base = s.readGpr base) :
    t.PlainAt base a := by
  obtain ⟨hcfg, hsr, hmode, -⟩ := hfixed
  have hreversed : t.reverseEndian = s.reverseEndian := by rw [State.reverseEndian, State.reverseEndian, hcfg, hsr, hmode]
  exact ⟨hdefined, hreg.trans h.address, hreversed.trans h.notReversed, hcfg ▸ h.identity, hcfg ▸ h.noBusErrors⟩

section
variable {s t : State} {rt : Reg} {w : Word} (h : LoadsRegister s t rt w)
include h

/-- A completed load leaves its value in the register, in either implementation group (40_load_store.md R103). -/
theorem LoadsRegister.arrived (hrt : rt ≠ 0#5) : t.arrived rt = w := by
  unfold LoadsRegister at h
  split at h
  · obtain ⟨-, hpending⟩ := h
    rw [if_neg hrt] at hpending
    simp [State.arrived_of_pending hpending, hrt]
  · obtain ⟨hregs, hidle⟩ := h
    simp [State.arrived_of_idle hidle, hregs, hrt]

/-- A load leaves a defined register other than its own as it was, and defined. -/
theorem LoadsRegister.other {x : Reg} (hne : x ≠ rt) (hx : s.defined x = true) :
    t.defined x = true ∧ t.readGpr x = s.readGpr x := by
  rw [← State.arrived_of_defined hx]
  unfold LoadsRegister at h
  split at h
  · obtain ⟨hregs, hpending⟩ := h
    refine ⟨?_, hregs x⟩
    split at hpending
    · exact State.defined_of_idle hpending x
    · exact (State.defined_iff_of_pending hpending x).mpr (.inr hne)
  · obtain ⟨hregs, hidle⟩ := h
    exact ⟨State.defined_of_idle hidle x, by simp [hregs, hne]⟩

end

/-! ## Loads of a part of the register -/

/-- A completed load of the register bytes `part` from their places; the other bytes are those that have arrived. -/
def LoadsPart (s t : State) (rt : Reg) (part : Nat → Prop) (place : Nat → Nat) : Prop :=
  ∃ w, CompletesLoad s t rt w ∧ ∀ l < 4, (part l → registerByte w l = s.mem.read (place l)) ∧
    (¬ part l → registerByte w l = registerByte (s.arrived rt) l)

/-- The base register and the arguments of the model survive the first load of a pair. -/
theorem State.PlainAt.of_loadsPart {s t : State} {base rt : Reg} {a : Word} {part : Nat → Prop} {place : Nat → Nat}
    (h : s.PlainAt base a) (hne : base ≠ rt) (hload : LoadsPart s t rt part place) : t.PlainAt base a := by
  obtain ⟨w, ⟨hregister, ⟨-, -, -, -, hfixed⟩, -⟩, -⟩ := hload
  obtain ⟨hdefined, hreg⟩ := hregister.other hne h.defined
  exact h.of_same hfixed hdefined hreg

/-- Two loads of parts that together are the whole register leave the four bytes in it. -/
theorem LoadsPart.trans {s t u : State} {rt : Reg} {part part' : Nat → Prop} {place : Nat → Nat}
    (hst : LoadsPart s t rt part place) (htu : LoadsPart t u rt part' place) (hrt : rt ≠ 0#5)
    (hwhole : ∀ l < 4, part l ∨ part' l) : ∀ l < 4, registerByte (u.arrived rt) l = s.mem.read (place l) := by
  obtain ⟨w, ⟨hregister, ⟨hmem, -⟩, -⟩, hbytes⟩ := hst
  obtain ⟨w', ⟨hregister', -⟩, hbytes'⟩ := htu
  intro l hl
  obtain ⟨hloaded, -⟩ := hbytes l hl
  obtain ⟨hloaded', hkept'⟩ := hbytes' l hl
  rw [hregister'.arrived hrt]
  by_cases hpart' : part' l
  · rw [hloaded' hpart', hmem]
  · rw [hkept' hpart', hregister.arrived hrt, hloaded ((hwhole l hl).resolve_right hpart')]

/-- A word is its four bytes. -/
theorem eq_append_of_registerBytes {w : Word} {byte : Nat → Byte} (h : ∀ l < 4, registerByte w l = byte l) :
    w = byte 3 ++ byte 2 ++ byte 1 ++ byte 0 := by
  rw [← h 3 (by decide), ← h 2 (by decide), ← h 1 (by decide), ← h 0 (by decide)]
  exact (lanesOf_word w).symm

section
variable {s : State} {base rt : Reg} {a : Word} (h : s.PlainAt base a)
include h

theorem State.PlainAt.lwl (rt : Reg) :
    ∃ t, exec (.lwl rt (BitVec.ofNat 16 (leftOffset s.cfg.bigEndianMem)) base) s = .next t ∧
      LoadsPart s t rt (leftStart s.cfg.bigEndianMem a ≤ ·) (unalignedPlace s.cfg.bigEndianMem a) := by
  have hv := h.dataAddress (k := leftOffset s.cfg.bigEndianMem) (by unfold leftOffset; split <;> decide)
  obtain ⟨t, w, hexec, hload, hbytes⟩ := loadWordLeftMergesHighBytes s rt base _ _ _ _ _ _ rfl
    (addressTranslation_identity _ _ .load h.identity) rfl rfl (busErrorAt_of_none h.noBusErrors _)
  refine ⟨t, hexec, w, hload, fun l hl => ?_⟩
  obtain ⟨hpart, hplace⟩ := h.leftPlaces hv (i := 3 - l) (by omega)
  have hbyte := hbytes (3 - l) (by omega)
  have hl' : 3 - (3 - l) = l := by omega
  rw [hl'] at hpart hplace hbyte
  refine ⟨fun hin => ?_, fun hout => ?_⟩
  · rw [hbyte, if_pos (hpart.mpr hin), hplace (hpart.mpr hin)]
  · rw [hbyte, if_neg (mt hpart.mp hout)]

theorem State.PlainAt.lwr (rt : Reg) :
    ∃ t, exec (.lwr rt (BitVec.ofNat 16 (rightOffset s.cfg.bigEndianMem)) base) s = .next t ∧
      LoadsPart s t rt (fun l => leftStart s.cfg.bigEndianMem a = 0 ∨ l < leftStart s.cfg.bigEndianMem a)
        (unalignedPlace s.cfg.bigEndianMem a) := by
  have hv := h.dataAddress (k := rightOffset s.cfg.bigEndianMem) (by unfold rightOffset; split <;> decide)
  obtain ⟨t, w, hexec, hload, hbytes⟩ := loadWordRightMergesLowBytes s rt base _ _ _ _ _ _ rfl
    (addressTranslation_identity _ _ .load h.identity) rfl rfl (busErrorAt_of_none h.noBusErrors _)
  refine ⟨t, hexec, w, hload, fun l hl => ?_⟩
  obtain ⟨hpart, hplace⟩ := h.rightPlaces hv hl
  refine ⟨fun hin => ?_, fun hout => ?_⟩
  · rw [hbytes l hl, if_pos (hpart.mpr hin), hplace (hpart.mpr hin)]
  · rw [hbytes l hl, if_neg (mt hpart.mp hout)]

/-- LWL then LWR (40_load_store.md R123). -/
theorem State.PlainAt.lwl_lwr (hrt : rt ≠ 0#5) (hne : base ≠ rt) :
    ∃ t u, exec (.lwl rt (BitVec.ofNat 16 (leftOffset s.cfg.bigEndianMem)) base) s = .next t ∧
      exec (.lwr rt (BitVec.ofNat 16 (rightOffset s.cfg.bigEndianMem)) base) t = .next u ∧
      ∀ l < 4, registerByte (u.arrived rt) l = s.mem.read (unalignedPlace s.cfg.bigEndianMem a l) := by
  obtain ⟨t, hleft, hst⟩ := h.lwl rt
  have hcfg : t.cfg = s.cfg := (exec_next _ s t hleft).sameFixedParts.1
  obtain ⟨u, hright, htu⟩ := (h.of_loadsPart hne hst).lwr rt
  rw [hcfg] at hright htu
  exact ⟨t, u, hleft, hright, hst.trans htu hrt fun l _ => by omega⟩

/-- LWR then LWL (40_load_store.md R123). -/
theorem State.PlainAt.lwr_lwl (hrt : rt ≠ 0#5) (hne : base ≠ rt) :
    ∃ t u, exec (.lwr rt (BitVec.ofNat 16 (rightOffset s.cfg.bigEndianMem)) base) s = .next t ∧
      exec (.lwl rt (BitVec.ofNat 16 (leftOffset s.cfg.bigEndianMem)) base) t = .next u ∧
      ∀ l < 4, registerByte (u.arrived rt) l = s.mem.read (unalignedPlace s.cfg.bigEndianMem a l) := by
  obtain ⟨t, hright, hst⟩ := h.lwr rt
  have hcfg : t.cfg = s.cfg := (exec_next _ s t hright).sameFixedParts.1
  obtain ⟨u, hleft, htu⟩ := (h.of_loadsPart hne hst).lwl rt
  rw [hcfg] at hleft htu
  exact ⟨t, u, hright, hleft, hst.trans htu hrt fun l _ => by omega⟩

end

/-- Settles O18: in either order the two parts are the whole register. -/
theorem unalignedLoadPair : Obligations.UnalignedLoadPair := by
  intro s rt base byteAt hrt hne hbase hre hm hb hbytes
  have h : s.PlainAt base (s.readGpr base) := ⟨hbase, rfl, hre, hm, hb⟩
  obtain ⟨t, u, hleft, hright, hu⟩ := h.lwl_lwr hrt hne
  obtain ⟨t', u', hright', hleft', hu'⟩ := h.lwr_lwl hrt hne
  have hplaces : ∀ l, s.mem.read (unalignedPlace s.cfg.bigEndianMem (s.readGpr base) l) =
      byteAt (if s.cfg.bigEndianMem then 3 - l else l) := fun l => (hbytes _).symm
  simp only [hplaces] at hu hu'
  have hword := eq_append_of_registerBytes hu
  have hword' := eq_append_of_registerBytes hu'
  refine ⟨fun hbe => ?_, fun hbe => ?_⟩
  all_goals
    rw [hbe] at hleft hright hword hleft' hright' hword'
    exact ⟨⟨t, u, hleft, hright, hword⟩, ⟨t', u', hright', hleft', hword'⟩⟩

end Sys2Proof.Machine
end

section
/-! PROOFS. Stores that complete (O19 to O23; 40_load_store.md R113 to R116, R121, R122, 20_memory.md R34, R50). -/

namespace Sys2Proof.Machine

/-! ## What StoreMemory changes -/

theorem State.mem_written_putLane (s : State) (ty : AccessType) (d : Word) (p : PAddr) (k : BitVec 2) (a : Nat) :
    a ∈ (s.putLane ty d p k).written ↔
      (coversOffset p ty k = true ∧ a = 4 * p.frame + k.toNat) ∨ a ∈ s.written := by
  unfold State.putLane
  cases h : coversOffset p ty k <;> simp [mem_markAddress]

/-- The record of stored addresses grows by the bytes the access covers (20_memory.md R50). -/
theorem State.mem_written_putLanes (s : State) (ty : AccessType) (d : Word) (p : PAddr) (a : Nat) :
    a ∈ (s.putLanes ty d p).written ↔
      a ∈ s.written ∨ ∃ k, coversOffset p ty k = true ∧ a = 4 * p.frame + k.toNat := by
  simp only [State.putLanes, State.mem_written_putLane]
  constructor
  · rintro (⟨hk, ha⟩ | ⟨hk, ha⟩ | ⟨hk, ha⟩ | ⟨hk, ha⟩ | hold)
    · exact .inr ⟨_, hk, ha⟩
    · exact .inr ⟨_, hk, ha⟩
    · exact .inr ⟨_, hk, ha⟩
    · exact .inr ⟨_, hk, ha⟩
    · exact .inl hold
  · rintro (hold | ⟨k, hk, ha⟩)
    · simp [hold]
    · rcases bitVec2_cases k with rfl | rfl | rfl | rfl <;> simp [hk, ha]

/-- A byte the access does not cover reads as before (20_memory.md R34). -/
theorem State.read_putLanes_uncovered (s : State) (ty : AccessType) (d : Word) (p : PAddr) (a : Nat)
    (h : ∀ k, coversOffset p ty k = true → a ≠ 4 * p.frame + k.toNat) :
    (s.putLanes ty d p).mem.read a = s.mem.read a := by
  have hnone : ∀ k, ¬ (coversOffset p ty k = true ∧ a = 4 * p.frame + k.toNat) := fun k ⟨hk, ha⟩ => h k hk ha
  simp only [State.putLanes, State.read_putLane, hnone, if_false]

/-! ## What a completed store leaves -/

theorem State.putLanes_completes (s : State) (ty : AccessType) (d : Word) (p : PAddr) :
    CompletesStore s (s.putLanes ty d p).commitPending.advance := by
  obtain ⟨hregs, hidle⟩ := (s.putLanes ty d p).commitPending_arrives
  have harrived : ∀ x, (s.putLanes ty d p).arrived x = s.arrived x := by simp [State.arrived]
  exact ⟨⟨fun x => (hregs x).trans (harrived x), hidle⟩, by simp, by simp, by simp [State.sameFixedParts],
    by simp [FollowsOn]⟩

/-- A store that meets no exception, told by the offsets of its memory word it covers: `offset 0` to `offset n` are
those offsets, and the data at each is the value of its place. -/
theorem State.store_stores {s : State} {mask : BitVec 2} {v : Word} {p : PAddr} {u : Bool} {ty : AccessType}
    {place : PAddr → PAddr} {d : Word} {known : Prop} {n : Nat} {addr : Nat → Nat} {value : Nat → Byte}
    (offset : Nat → BitVec 2) (ha : alignedTo mask v = true)
    (ht : addressTranslation s.cfg v .store = .ok (p, u)) (hb : busErrorAt s.cfg (place p).toNat = false)
    (hcovers : ∀ k, coversOffset (place p) ty k = true ↔ ∃ i, i ≤ n ∧ k = offset i)
    (haddr : ∀ i ≤ n, addr i = 4 * (place p).frame + (offset i).toNat)
    (hvalue : known → ∀ i ≤ n, dataLane d (laneOf s.cfg.bigEndianMem (offset i)) = value i) :
    ∃ t, s.finishStore (s.storeLanes mask ty place v d) = .next t ∧ StoresBytes s t known n addr value := by
  refine ⟨_, by rw [State.storeLanes_of_ok ty place d ha ht hb]; rfl, s.putLanes_completes ty d (place p), ?_, ?_, ?_⟩
  · intro hknown i hi
    rw [State.advance_mem, State.commitPending_mem, haddr i hi, State.read_putLanes,
      if_pos ((hcovers _).mpr ⟨i, hi, rfl⟩), hvalue hknown i hi]
  · intro a hother
    rw [State.advance_mem, State.commitPending_mem]
    refine s.read_putLanes_uncovered ty d (place p) a fun k hk => ?_
    obtain ⟨i, hi, rfl⟩ := (hcovers k).mp hk
    exact haddr i hi ▸ hother i hi
  · intro a
    rw [State.advance_written, State.commitPending_written, State.mem_written_putLanes]
    refine or_congr_right ⟨?_, ?_⟩
    · rintro ⟨k, hk, rfl⟩
      obtain ⟨i, hi, rfl⟩ := (hcovers k).mp hk
      exact ⟨i, hi, (haddr i hi).symm⟩
    · rintro ⟨i, hi, rfl⟩
      exact ⟨_, (hcovers _).mpr ⟨i, hi, rfl⟩, haddr i hi⟩

/-! ## The bytes of the data a store sends -/

theorem toNat_add_ofNat {b : BitVec 2} {i : Nat} (h : b.toNat + i < 4) : (b + BitVec.ofNat 2 i).toNat = b.toNat + i := by
  rw [BitVec.toNat_add, BitVec.toNat_ofNat]
  omega

theorem toNat_sub_ofNat {b : BitVec 2} {i : Nat} (h : i ≤ b.toNat) : (b - BitVec.ofNat 2 i).toNat = b.toNat - i := by
  have := b.isLt
  rw [BitVec.toNat_sub, BitVec.toNat_ofNat]
  omega

/-- Lane `b + i` of the data SB, SH and SWR send is register byte `i` (40_load_store.md R113, R114, R122). -/
theorem dataLane_shiftIntoLane (w : Word) {b : BitVec 2} {i : Nat} (h : b.toNat + i < 4) :
    dataLane (shiftIntoLane w b) (b + BitVec.ofNat 2 i) = registerByte w i := by
  apply BitVec.eq_of_getLsbD_eq
  intro j hj
  rw [dataLane, shiftIntoLane, registerByte, toNat_add_ofNat h, BitVec.getLsbD_extractLsb', BitVec.getLsbD_extractLsb',
    BitVec.getLsbD_shiftLeft]
  have hlow : ¬ 8 * (b.toNat + i) + j < 8 * b.toNat := by omega
  have hhigh : 8 * (b.toNat + i) + j < 32 := by omega
  have hbit : 8 * (b.toNat + i) + j - 8 * b.toNat = 8 * i + j := by omega
  simp [hlow, hhigh, hbit]

/-- Lane `b - i` of the data SWL sends is register byte `3 - i` (40_load_store.md R116). -/
theorem dataLane_shiftFromLeft (w : Word) {b : BitVec 2} {i : Nat} (h : i ≤ b.toNat) :
    dataLane (shiftFromLeft w b) (b - BitVec.ofNat 2 i) = registerByte w (3 - i) := by
  have := b.isLt
  apply BitVec.eq_of_getLsbD_eq
  intro j hj
  have hbit : 24 - 8 * b.toNat + (8 * (b.toNat - i) + j) = 8 * (3 - i) + j := by omega
  rw [dataLane, shiftFromLeft, registerByte, toNat_sub_ofNat h, BitVec.getLsbD_extractLsb', BitVec.getLsbD_extractLsb',
    BitVec.getLsbD_ushiftRight, hbit]

/-! ## The offsets each store covers -/

theorem coversOffset_iff {p : PAddr} {ty : AccessType} (h : p.low.toNat + ty.value < 4) (k : BitVec 2) :
    coversOffset p ty k = true ↔ ∃ i, i ≤ ty.value ∧ k = p.low + BitVec.ofNat 2 i := by
  simp only [coversOffset, Bool.and_eq_true, decide_eq_true_eq]
  constructor
  · rintro ⟨hlow, hhigh⟩
    have := k.isLt
    refine ⟨k.toNat - p.low.toNat, by omega, BitVec.eq_of_toNat_eq ?_⟩
    rw [toNat_add_ofNat (by omega)]
    omega
  · rintro ⟨i, hi, rfl⟩
    rw [toNat_add_ofNat (by omega)]
    omega

theorem coversOffset_left :
    ∀ (be re : Bool), ∀ k < 4, ∀ j : BitVec 2,
      coversOffset ⟨0, if be then BitVec.ofNat 2 k ^^^ both re else 0#2⟩
        (.ofNumber (BitVec.ofNat 2 k ^^^ both (be != re))) j = true ↔
      ∃ i, i ≤ (if be != re then 3 - k else k) ∧
        j = BitVec.ofNat 2 (if be != re then k + i else k - i) ^^^ both re := by decide

theorem coversOffset_right :
    ∀ (be re : Bool), ∀ k < 4, ∀ j : BitVec 2,
      coversOffset ⟨0, if be then 0#2 else BitVec.ofNat 2 k ^^^ both re⟩
        (.ofNumber (3#2 - (BitVec.ofNat 2 k ^^^ both (be != re)))) j = true ↔
      ∃ i, i ≤ (if be != re then k else 3 - k) ∧
        j = BitVec.ofNat 2 (if be != re then k - i else k + i) ^^^ both re := by decide

section
variable (s : State) {p : PAddr} {k : Nat} (hp : p.low = BitVec.ofNat 2 k) (hk : k < 4)
include hp hk

/-- The bytes SWL stores (40_load_store.md R121). -/
theorem State.coversOffset_leftPlace (j : BitVec 2) :
    coversOffset (s.leftPlace p) (.ofNumber (BitVec.ofNat 2 k ^^^ both s.bigEndianCPU)) j = true ↔
      ∃ i, i ≤ (if s.bigEndianCPU then 3 - k else k) ∧
        j = BitVec.ofNat 2 (if s.bigEndianCPU then k + i else k - i) ^^^ both s.reverseEndian := by
  have hlow : (s.leftPlace p).low =
      if s.cfg.bigEndianMem then BitVec.ofNat 2 k ^^^ both s.reverseEndian else 0#2 := by
    rw [← hp, State.leftPlace]
    split <;> rfl
  have hcovers := coversOffset_left s.cfg.bigEndianMem s.reverseEndian k hk j
  rw [← hlow] at hcovers
  exact hcovers

/-- The bytes SWR stores (40_load_store.md R121). -/
theorem State.coversOffset_rightPlace (j : BitVec 2) :
    coversOffset (s.rightPlace p) (.ofNumber (3#2 - (BitVec.ofNat 2 k ^^^ both s.bigEndianCPU))) j = true ↔
      ∃ i, i ≤ (if s.bigEndianCPU then k else 3 - k) ∧
        j = BitVec.ofNat 2 (if s.bigEndianCPU then k - i else k + i) ^^^ both s.reverseEndian := by
  have hlow : (s.rightPlace p).low =
      if s.cfg.bigEndianMem then 0#2 else BitVec.ofNat 2 k ^^^ both s.reverseEndian := by
    rw [← hp, State.rightPlace]
    split <;> rfl
  have hcovers := coversOffset_right s.cfg.bigEndianMem s.reverseEndian k hk j
  rw [← hlow] at hcovers
  exact hcovers

end

/-! ## The obligations -/

/-- Settles O19: one byte is covered, and its lane holds register byte 0. -/
theorem storeByteWritesOneByte : Obligations.StoreByteWritesOneByte := by
  rintro s rt base offset v p u a rfl ht rfl hb
  have hp := (addressTranslation_low _ _ _ p u ht).trans (lowBits_eq_ofNat _)
  have hlow : (s.bytePlace p).low = BitVec.ofNat 2 _ ^^^ both s.reverseEndian := congrArg (· ^^^ _) hp
  rw [← State.bytePlace_toNat hp] at hb
  refine State.store_stores (fun _ => (s.bytePlace p).low) (alignedTo_byte _) ht hb (fun k => ?_) (fun _ _ => ?_)
    (fun hrt _ _ => ?_)
  · have hend : (s.bytePlace p).low.toNat + AccessType.value .byte < 4 := (s.bytePlace p).low.isLt
    simpa [AccessType.value] using coversOffset_iff hend k
  · rw [hlow]
    rfl
  · rw [hlow, s.laneOf_visible, ← s.byteSelect_eq, State.readOperand_of_defined hrt]
    simpa using dataLane_shiftIntoLane (s.readGpr rt) (i := 0) (s.byteSelect (s.dataAddress offset base)).isLt

/-- The lanes of the two bytes of a halfword, in the order of `BigEndianMem` (40_load_store.md R114). -/
theorem laneOf_half_add :
    ∀ (be re : Bool), ∀ k < 4, k % 2 = 0 → ∀ i ≤ 1,
      laneOf be ((BitVec.ofNat 2 k ^^^ upper re) + BitVec.ofNat 2 i) =
        (BitVec.ofNat 2 k ^^^ upper (be != re)) + BitVec.ofNat 2 (if be then 1 - i else i) := by decide

/-- A halfword at an even offset ends inside the memory word. -/
theorem half_select_lt : ∀ (b : Bool), ∀ k < 4, k % 2 = 0 → (BitVec.ofNat 2 k ^^^ upper b).toNat + 1 < 4 := by decide

/-- Settles O20: the two bytes at the half place are covered. -/
theorem storeHalfwordWritesTwoBytes : Obligations.StoreHalfwordWritesTwoBytes := by
  rintro s rt base offset v p u a rfl heven ht rfl hb
  have hp := (addressTranslation_low _ _ _ p u ht).trans (lowBits_eq_ofNat _)
  have hlow : (s.halfPlace p).low = BitVec.ofNat 2 _ ^^^ upper s.reverseEndian := congrArg (· ^^^ _) hp
  rw [← State.halfPlace_toNat hp] at hb ⊢
  have hk : (s.dataAddress offset base).toNat % 4 < 4 := Nat.mod_lt _ (by decide)
  have hkeven : (s.dataAddress offset base).toNat % 4 % 2 = 0 := by omega
  have hend := half_select_lt s.reverseEndian _ hk hkeven
  rw [← hlow] at hend
  refine State.store_stores (fun i => (s.halfPlace p).low + BitVec.ofNat 2 i) ((alignedTo_half_iff _).mpr heven) ht hb
    (coversOffset_iff hend) (fun i hi => ?_) (fun hrt i hi => ?_)
  · rw [toNat_add_ofNat (by omega), PAddr.toNat, Nat.add_assoc]
  · have hselect := half_select_lt s.bigEndianCPU _ hk hkeven
    rw [hlow, laneOf_half_add _ _ _ hk hkeven i hi, State.halfSelect, lowBits_eq_ofNat, ← State.bigEndianCPU,
      State.readOperand_of_defined hrt]
    exact dataLane_shiftIntoLane _ (by split <;> omega)

/-- The lanes of the four bytes of a word, in the order of `BigEndianMem` (40_load_store.md R115). -/
theorem laneOf_ofNat_toNat : ∀ be : Bool, ∀ i ≤ 3, (laneOf be (BitVec.ofNat 2 i)).toNat = if be then 3 - i else i := by
  decide

/-- Settles O21: the whole memory word is covered. -/
theorem storeWordWritesFourBytes : Obligations.StoreWordWritesFourBytes := by
  rintro s rt base offset v p u a rfl hword ht rfl hb
  have hlow : p.low = 0#2 := by
    rw [addressTranslation_low _ _ _ p u ht, lowBits_eq_ofNat, hword]
  have hend : p.low.toNat + AccessType.value .word < 4 := by
    rw [hlow]
    decide
  refine State.store_stores (place := id) (fun i => p.low + BitVec.ofNat 2 i) ((alignedTo_word_iff _).mpr hword) ht hb
    (coversOffset_iff hend) (fun i hi => ?_) (fun hrt i hi => ?_)
  · have hlt : p.low.toNat + i < 4 := by simpa [hlow] using Nat.lt_succ_of_le hi
    rw [toNat_add_ofNat hlt, PAddr.toNat, Nat.add_assoc]
    rfl
  · rw [hlow, BitVec.zero_add, State.readOperand_of_defined hrt]
    show registerByte _ (laneOf s.cfg.bigEndianMem (BitVec.ofNat 2 i)).toNat = _
    rw [laneOf_ofNat_toNat _ i hi]

/-- Settles O22: the bytes R121 names are the ones covered, and the data has the register's bytes in their lanes. -/
theorem storeWordLeftWritesHighBytes : Obligations.StoreWordLeftWritesHighBytes := by
  rintro s rt base offset v p u k e rfl ht rfl rfl hb
  have hp := (addressTranslation_low _ _ _ p u ht).trans (lowBits_eq_ofNat _)
  have hk : (s.dataAddress offset base).toNat % 4 < 4 := Nat.mod_lt _ (by decide)
  rw [← State.leftPlace_toNat hp] at hb
  have hcovers := s.coversOffset_leftPlace hp hk
  rw [← s.byteSelect_eq] at hcovers
  refine State.store_stores _ (alignedTo_byte _) ht hb hcovers (fun i hi => ?_) (fun hrt i hi => ?_)
  · rw [s.leftPlace_frame]
    rfl
  · have hi' : i ≤ (s.byteSelect (s.dataAddress offset base)).toNat := by rwa [s.byteSelect_eq, select_toNat _ _ hk]
    rw [s.laneOf_visible, ← select_sub _ _ hk i (by omega) hi, ← s.byteSelect_eq, State.readOperand_of_defined hrt]
    exact dataLane_shiftFromLeft _ hi'

/-- Settles O23: likewise. -/
theorem storeWordRightWritesLowBytes : Obligations.StoreWordRightWritesLowBytes := by
  rintro s rt base offset v p u k e rfl ht rfl rfl hb
  have hp := (addressTranslation_low _ _ _ p u ht).trans (lowBits_eq_ofNat _)
  have hk : (s.dataAddress offset base).toNat % 4 < 4 := Nat.mod_lt _ (by decide)
  rw [← State.rightPlace_toNat hp] at hb
  have hcovers := s.coversOffset_rightPlace hp hk
  rw [← s.byteSelect_eq] at hcovers
  refine State.store_stores _ (alignedTo_byte _) ht hb hcovers (fun i hi => ?_) (fun hrt i hi => ?_)
  · rw [s.rightPlace_frame]
    rfl
  · have hi' : i ≤ 3 - (s.byteSelect (s.dataAddress offset base)).toNat := by
      rwa [s.byteSelect_eq, select_toNat_complement _ _ hk]
    have hlt := (s.byteSelect (s.dataAddress offset base)).isLt
    rw [s.laneOf_visible, ← select_add _ _ hk i (by omega) hi, ← s.byteSelect_eq, State.readOperand_of_defined hrt]
    exact dataLane_shiftIntoLane _ (by omega)

end Sys2Proof.Machine
end

section
/-! PROOFS. The pair SWL, SWR at any address (O24; 40_load_store.md R121, R123). -/

namespace Sys2Proof.Machine

/-! ## What the first instruction of a pair leaves the second -/

/-- A completed store leaves a defined register as it was, and defined. -/
theorem CompletesStore.register {s t : State} (h : CompletesStore s t) {x : Reg} (hx : s.defined x = true) :
    t.defined x = true ∧ t.readGpr x = s.readGpr x := by
  obtain ⟨⟨hregs, hidle⟩, -⟩ := h
  exact ⟨State.defined_of_idle hidle x, (hregs x).trans (State.arrived_of_defined hx)⟩

theorem State.PlainAt.of_completesStore {s t : State} {base : Reg} {a : Word} (h : s.PlainAt base a)
    (hstore : CompletesStore s t) : t.PlainAt base a := by
  obtain ⟨hdefined, hreg⟩ := hstore.register h.defined
  obtain ⟨-, -, -, hfixed, -⟩ := hstore
  exact h.of_same hfixed hdefined hreg

/-! ## Stores of a part of a register -/

/-- Memory receives the bytes `part` at their places; every other byte reads as before. -/
def StoresPart (s t : State) (part : Nat → Prop) (place : Nat → Nat) (value : Nat → Byte) : Prop :=
  (∀ l < 4, part l → t.mem.read (place l) = value l) ∧
  ∀ a, (∀ l < 4, part l → a ≠ place l) → t.mem.read a = s.mem.read a

/-- A completed store whose places and values are those of a part of a register. -/
theorem StoresPart.of_storesBytes {s t : State} {known : Prop} {n : Nat} {place place' : Nat → Nat}
    {value value' : Nat → Byte} {part : Nat → Prop} (h : StoresBytes s t known n place value) (hknown : known)
    (hpart : ∀ l < 4, part l → ∃ i, i ≤ n ∧ place i = place' l ∧ value i = value' l)
    (hindex : ∀ i, i ≤ n → ∃ l < 4, part l ∧ place i = place' l) :
    CompletesStore s t ∧ StoresPart s t part place' value' := by
  obtain ⟨hcompletes, hstored, hframe, -⟩ := h
  refine ⟨hcompletes, fun l hl hin => ?_, fun a ha => hframe a fun i hi => ?_⟩
  · obtain ⟨i, hi, hplace, hvalue⟩ := hpart l hl hin
    rw [← hplace, hstored hknown i hi, hvalue]
  · obtain ⟨l, hl, hin, hplace⟩ := hindex i hi
    exact hplace ▸ ha l hl hin

/-- Two stores of parts that together are the whole register leave its four bytes in memory, and no other change. -/
theorem StoresPart.trans {s t u : State} {part part' : Nat → Prop} {place : Nat → Nat} {value : Nat → Byte}
    (hst : StoresPart s t part place value) (htu : StoresPart t u part' place value)
    (hplace : ∀ l < 4, ∀ l' < 4, place l = place l' → l = l') (hwhole : ∀ l < 4, part l ∨ part' l) :
    StoresPart s u (fun _ => True) place value := by
  obtain ⟨hstored, hframe⟩ := hst
  obtain ⟨hstored', hframe'⟩ := htu
  refine ⟨fun l hl _ => ?_, fun a ha => ?_⟩
  · by_cases hpart' : part' l
    · exact hstored' l hl hpart'
    · rw [hframe' (place l) fun l' hl' hin heq => hpart' (hplace l hl l' hl' heq ▸ hin)]
      exact hstored l hl ((hwhole l hl).resolve_right hpart')
  · rw [hframe' a fun l hl _ => ha l hl trivial, hframe a fun l hl _ => ha l hl trivial]

theorem unalignedPlace_injective (bigEndian : Bool) (a : Word) :
    ∀ l < 4, ∀ l' < 4, unalignedPlace bigEndian a l = unalignedPlace bigEndian a l' → l = l' := by
  intro l hl l' hl' heq
  have := a.isLt
  simp only [unalignedPlace, BitVec.toNat_add, BitVec.toNat_ofNat] at heq
  cases bigEndian with
  | true =>
    simp only [↓reduceIte] at heq
    omega
  | false =>
    simp only [Bool.false_eq_true, ↓reduceIte] at heq
    omega

section
variable {s : State} {base rt : Reg} {a : Word} (h : s.PlainAt base a) (hrt : s.defined rt = true)
include h hrt

theorem State.PlainAt.swl :
    ∃ t, exec (.swl rt (BitVec.ofNat 16 (leftOffset s.cfg.bigEndianMem)) base) s = .next t ∧ CompletesStore s t ∧
      StoresPart s t (leftStart s.cfg.bigEndianMem a ≤ ·) (unalignedPlace s.cfg.bigEndianMem a)
        (registerByte (s.readGpr rt)) := by
  have hv := h.dataAddress (k := leftOffset s.cfg.bigEndianMem) (by unfold leftOffset; split <;> decide)
  obtain ⟨t, hexec, hstores⟩ := storeWordLeftWritesHighBytes s rt base _ _ _ _ _ _ rfl
    (addressTranslation_identity _ _ .store h.identity) rfl rfl (busErrorAt_of_none h.noBusErrors _)
  refine ⟨t, hexec, StoresPart.of_storesBytes hstores hrt (fun l hl hin => ?_) fun i hi => ?_⟩
  · obtain ⟨hpart, hplace⟩ := h.leftPlaces hv (i := 3 - l) (by omega)
    have hl' : 3 - (3 - l) = l := by omega
    rw [hl'] at hpart hplace
    exact ⟨3 - l, hpart.mpr hin, hplace (hpart.mpr hin), congrArg _ hl'⟩
  · have hi' : i < 4 := by split at hi <;> omega
    obtain ⟨hpart, hplace⟩ := h.leftPlaces hv hi'
    exact ⟨3 - i, by omega, hpart.mp hi, hplace hi⟩

theorem State.PlainAt.swr :
    ∃ t, exec (.swr rt (BitVec.ofNat 16 (rightOffset s.cfg.bigEndianMem)) base) s = .next t ∧ CompletesStore s t ∧
      StoresPart s t (fun l => leftStart s.cfg.bigEndianMem a = 0 ∨ l < leftStart s.cfg.bigEndianMem a)
        (unalignedPlace s.cfg.bigEndianMem a) (registerByte (s.readGpr rt)) := by
  have hv := h.dataAddress (k := rightOffset s.cfg.bigEndianMem) (by unfold rightOffset; split <;> decide)
  obtain ⟨t, hexec, hstores⟩ := storeWordRightWritesLowBytes s rt base _ _ _ _ _ _ rfl
    (addressTranslation_identity _ _ .store h.identity) rfl rfl (busErrorAt_of_none h.noBusErrors _)
  refine ⟨t, hexec, StoresPart.of_storesBytes hstores hrt (fun l hl hin => ?_) fun i hi => ?_⟩
  · obtain ⟨hpart, hplace⟩ := h.rightPlaces hv hl
    exact ⟨l, hpart.mpr hin, hplace (hpart.mpr hin), rfl⟩
  · have hi' : i < 4 := by split at hi <;> omega
    obtain ⟨hpart, hplace⟩ := h.rightPlaces hv hi'
    exact ⟨i, hi', hpart.mp hi, hplace hi⟩

/-- SWL then SWR (40_load_store.md R123). -/
theorem State.PlainAt.swl_swr :
    ∃ t u, exec (.swl rt (BitVec.ofNat 16 (leftOffset s.cfg.bigEndianMem)) base) s = .next t ∧
      exec (.swr rt (BitVec.ofNat 16 (rightOffset s.cfg.bigEndianMem)) base) t = .next u ∧
      StoresPart s u (fun _ => True) (unalignedPlace s.cfg.bigEndianMem a) (registerByte (s.readGpr rt)) := by
  obtain ⟨t, hleft, hcompletes, hst⟩ := h.swl hrt
  obtain ⟨hrt', hreg⟩ := hcompletes.register hrt
  have hcfg : t.cfg = s.cfg := (exec_next _ s t hleft).sameFixedParts.1
  obtain ⟨u, hright, -, htu⟩ := (h.of_completesStore hcompletes).swr hrt'
  rw [hcfg] at hright htu
  rw [hreg] at htu
  exact ⟨t, u, hleft, hright, hst.trans htu (unalignedPlace_injective _ a) fun l _ => by omega⟩

/-- SWR then SWL (40_load_store.md R123). -/
theorem State.PlainAt.swr_swl :
    ∃ t u, exec (.swr rt (BitVec.ofNat 16 (rightOffset s.cfg.bigEndianMem)) base) s = .next t ∧
      exec (.swl rt (BitVec.ofNat 16 (leftOffset s.cfg.bigEndianMem)) base) t = .next u ∧
      StoresPart s u (fun _ => True) (unalignedPlace s.cfg.bigEndianMem a) (registerByte (s.readGpr rt)) := by
  obtain ⟨t, hright, hcompletes, hst⟩ := h.swr hrt
  obtain ⟨hrt', hreg⟩ := hcompletes.register hrt
  have hcfg : t.cfg = s.cfg := (exec_next _ s t hright).sameFixedParts.1
  obtain ⟨u, hleft, -, htu⟩ := (h.of_completesStore hcompletes).swl hrt'
  rw [hcfg] at hleft htu
  rw [hreg] at htu
  exact ⟨t, u, hright, hleft, hst.trans htu (unalignedPlace_injective _ a) fun l _ => by omega⟩

end

/-- Counting the four bytes from the other end, or not, is its own inverse. -/
theorem index_involutive :
    ∀ be : Bool, ∀ i ≤ 3, (if be then 3 - i else i) ≤ 3 ∧
      (if be then 3 - (if be then 3 - i else i) else (if be then 3 - i else i)) = i := by decide

/-- The register bytes at their places, counted by rising addresses (40_load_store.md R123). -/
theorem StoresPart.rising {s u : State} {bigEndian : Bool} {a : Word} {place : Nat → Nat} {value : Nat → Byte}
    (h : StoresPart s u (fun _ => True) (unalignedPlace bigEndian a) value)
    (hplace : ∀ i, place i = (a + BitVec.ofNat 32 i).toNat) :
    (∀ i, i ≤ 3 → u.mem.read (place i) = value (if bigEndian then 3 - i else i)) ∧
    ∀ b, (∀ i, i ≤ 3 → b ≠ place i) → u.mem.read b = s.mem.read b := by
  obtain ⟨hstored, hframe⟩ := h
  have hunaligned : ∀ l, unalignedPlace bigEndian a l = place (if bigEndian then 3 - l else l) :=
    fun l => (hplace _).symm
  refine ⟨fun i hi => ?_, fun b hb => hframe b fun l hl _ => ?_⟩
  · obtain ⟨hl, hback⟩ := index_involutive bigEndian i hi
    have hbyte := hstored _ (Nat.lt_succ_of_le hl) trivial
    rwa [hunaligned, hback] at hbyte
  · obtain ⟨hi, -⟩ := index_involutive bigEndian l (Nat.le_of_lt_succ hl)
    exact hunaligned l ▸ hb _ hi

/-- Settles O24: in either order the two parts are the whole register, and their places are the four bytes. -/
theorem unalignedStorePair : Obligations.UnalignedStorePair := by
  rintro s rt base place w hbase hrt rfl hre hm hb hplace
  have h : s.PlainAt base (s.readGpr base) := ⟨hbase, rfl, hre, hm, hb⟩
  obtain ⟨t, u, hleft, hright, hu⟩ := h.swl_swr hrt
  obtain ⟨t', u', hright', hleft', hu'⟩ := h.swr_swl hrt
  have hbytes := hu.rising hplace
  have hbytes' := hu'.rising hplace
  refine ⟨fun hbe => ?_, fun hbe => ?_⟩
  all_goals
    rw [hbe] at hleft hright hbytes hleft' hright' hbytes'
    rintro j j' (⟨rfl, rfl⟩ | ⟨rfl, rfl⟩)
    · exact ⟨t, u, hleft, hright, hbytes⟩
    · exact ⟨t', u', hright', hleft', hbytes'⟩

end Sys2Proof.Machine
end

section
/-! PROOFS. What a computational instruction leaves, said once over the operation that ends it (41_computational.md,
preamble; 10_state.md R16 lines 8 to 10). -/

namespace Sys2Proof.Machine

/-! ## The register write of a computational instruction -/

theorem State.not_inLoadDelay_of_defined {s : State} {x : Reg} (h : s.defined x = true) (hx : x ≠ 0#5) :
    ¬ s.inLoadDelay x = true := by
  rw [s.inLoadDelay_iff]
  rintro ⟨v, hv⟩
  exact ((State.defined_iff_of_pending hv x).mp h).elim hx (· rfl)

/-- A defined destination receives the result, every other register what has arrived (10_state.md R16 lines 8a, 8b). -/
theorem State.writeResult_writes {s : State} {sources : Prop} {rd : Reg} {v w : Word} (h : sources → v = w) :
    WritesRegister s (s.writeResult rd v).advance sources rd w := by
  refine ⟨fun hsrc hrd hzero => ?_, State.readGpr_zero _, fun x hx => ?_, State.writeResult_pending s rd v⟩
  · rw [State.readGpr_advance, State.readGpr_writeResult, if_pos ⟨rfl, hzero⟩,
      if_neg (State.not_inLoadDelay_of_defined hrd hzero), h hsrc]
  · obtain ⟨harrived, -⟩ := s.commitPending_arrives
    rw [State.readGpr_advance, State.readGpr_writeResult, if_neg fun ⟨hrd, _⟩ => hx hrd, harrived]

/-- An instruction whose one effect is to write a register completes, in every state; the value counts where the
sources are defined. -/
theorem State.finish_computes {s : State} {sources : Prop} {rd : Reg} {v w : Word} (h : sources → v = w) :
    ∃ t, s.finish rd v = .next t ∧ ComputesRegister s t sources rd w :=
  ⟨_, rfl, State.writeResult_writes h, by simp [Quiet, SameMemory, State.sameFixedParts], by simp [FollowsOn]⟩

/-- A result computed from one source register. -/
theorem State.finish_computes_one (s : State) (rd r : Reg) (place : Place) {f g : Word → Word}
    (h : ∀ a, f a = g a) :
    ∃ t, s.finish rd (f (s.readOperand place r)) = .next t ∧
      ComputesRegister s t (s.defined r) rd (g (s.readGpr r)) :=
  State.finish_computes fun hr => by rw [State.readOperand_of_defined hr, h]

/-- A result computed from the source registers `rs` and `rt`. -/
theorem State.finish_computes_two (s : State) (rd rs rt : Reg) {f g : Word → Word → Word}
    (h : ∀ a b, f a b = g a b) :
    ∃ t, s.finish rd (f (s.readOperand .first rs) (s.readOperand .second rt)) = .next t ∧
      ComputesRegister s t (s.defined rs ∧ s.defined rt) rd (g (s.readGpr rs) (s.readGpr rt)) :=
  State.finish_computes fun ⟨hrs, hrt⟩ => by
    rw [State.readOperand_of_defined hrs, State.readOperand_of_defined hrt, h]

/-! ## What the next instruction finds -/

section
variable {s t : State} {sources : Prop} {rd : Reg} {v : Word}

theorem ComputesRegister.value (h : ComputesRegister s t sources rd v) (hsrc : sources) (hrd : s.defined rd = true)
    (hzero : rd ≠ 0#5) : t.readGpr rd = v := by
  obtain ⟨⟨hvalue, -⟩, -⟩ := h
  exact hvalue hsrc hrd hzero

theorem ComputesRegister.other (h : ComputesRegister s t sources rd v) {x : Reg} (hx : x ≠ rd)
    (hdef : s.defined x = true) : t.readGpr x = s.readGpr x := by
  obtain ⟨⟨-, -, hother, -⟩, -, -⟩ := h
  rw [hother x hx, State.arrived_of_defined hdef]

/-- After a computational instruction every register is defined: no load is pending. -/
theorem ComputesRegister.defined (h : ComputesRegister s t sources rd v) (x : Reg) : t.defined x = true := by
  obtain ⟨⟨-, -, -, hidle⟩, -, -⟩ := h
  exact State.defined_of_idle hidle x

end

end Sys2Proof.Machine
end

section
/-! PROOFS. The overflow condition (O3; 41_computational.md R131). -/

namespace Sys2Proof.Machine

theorem signBit_eq_msb (v : Word) : signBit v = v.msb := v.msb_eq_getLsbD_last.symm

theorem sub_eq_add_not_add_one (a b : Word) : a - b = a + ~~~b + 1#32 := by
  rw [BitVec.sub_eq_add_neg, BitVec.neg_eq_not_add, BitVec.add_assoc]

/-! ## The sign rule -/

theorem addOverflows_iff_signs (a b : Word) :
    addOverflows a b = true ↔ signBit a = signBit b ∧ signBit (a + b) ≠ signBit a := by
  simp [addOverflows]

theorem subOverflows_iff_signs (a b : Word) :
    subOverflows a b = true ↔ signBit a ≠ signBit b ∧ signBit (a - b) ≠ signBit a := by
  simp [subOverflows]

/-! ## The integer result is out of range -/

theorem addOverflows_eq_saddOverflow (a b : Word) : addOverflows a b = a.saddOverflow b := by
  rw [addOverflows, BitVec.saddOverflow_eq, signBit_eq_msb, signBit_eq_msb, signBit_eq_msb]
  rfl

theorem subOverflows_eq_ssubOverflow (a b : Word) : subOverflows a b = a.ssubOverflow b := by
  rw [subOverflows, BitVec.ssubOverflow_eq, signBit_eq_msb, signBit_eq_msb, signBit_eq_msb]
  cases a.msb <;> cases b.msb <;> simp

theorem addOverflows_iff_not_fitsSigned (a b : Word) : addOverflows a b = true ↔ ¬ fitsSigned (a.toInt + b.toInt) := by
  simp only [addOverflows_eq_saddOverflow, BitVec.saddOverflow, fitsSigned, Bool.or_eq_true, decide_eq_true_eq]
  omega

theorem subOverflows_iff_not_fitsSigned (a b : Word) : subOverflows a b = true ↔ ¬ fitsSigned (a.toInt - b.toInt) := by
  simp only [subOverflows_eq_ssubOverflow, BitVec.ssubOverflow, fitsSigned, Bool.or_eq_true, decide_eq_true_eq]
  omega

/-! ## The carries out of bits 30 and 31 -/

theorem signBit_eq_decide (v : Word) : signBit v = decide (2 ^ 31 ≤ v.toNat) := by
  rw [signBit_eq_msb, BitVec.msb_eq_decide]

/-- The two highest carries differ exactly when operands of one sign give a sum of the other. -/
theorem carries_differ_iff_signs (a b : Word) (carryIn : Bool) :
    carryOut 30 a b carryIn ≠ carryOut 31 a b carryIn ↔
      signBit a = signBit b ∧ signBit (a + b + BitVec.ofNat 32 carryIn.toNat) ≠ signBit a := by
  have ha := a.isLt
  have hb := b.isLt
  have hc : carryIn.toNat ≤ 1 := carryIn.toNat_le
  simp only [carryOut, signBit_eq_decide, ne_eq, decide_eq_decide, BitVec.toNat_add, BitVec.toNat_ofNat]
  omega

theorem addOverflows_iff_carries_differ (a b : Word) :
    addOverflows a b = true ↔ carryOut 30 a b false ≠ carryOut 31 a b false := by
  rw [carries_differ_iff_signs, addOverflows_iff_signs]
  simp

/-- A subtraction adds the complement with a carry in, and the complement has the other sign. -/
theorem subOverflows_iff_carries_differ (a b : Word) :
    subOverflows a b = true ↔ carryOut 30 a (~~~b) true ≠ carryOut 31 a (~~~b) true := by
  have hsign : signBit a = signBit (~~~b) ↔ signBit a ≠ signBit b := by
    simp [signBit_eq_msb, Bool.eq_not]
  rw [carries_differ_iff_signs, subOverflows_iff_signs, hsign, sub_eq_add_not_add_one]
  rfl

/-- Settles O3: the condition the meanings use is the sign rule; each other form is shown equivalent to it. -/
theorem overflowIsCarryDifference : Obligations.OverflowIsCarryDifference := fun a b =>
  ⟨addOverflows_iff_carries_differ a b, addOverflows_iff_not_fitsSigned a b, addOverflows_iff_signs a b,
    subOverflows_iff_carries_differ a b, subOverflows_iff_not_fitsSigned a b, subOverflows_iff_signs a b⟩

end Sys2Proof.Machine
end

section
/-! PROOFS. Add and subtract (O1, O2; 41_computational.md R131 to R137). -/

namespace Sys2Proof.Machine

theorem signExtended_eq_signFilled (imm : BitVec 16) : signExtended imm = signFilled imm := by
  rw [signExtended, BitVec.signExtend_eq_append_of_le (by decide), BitVec.msb_eq_getLsbD_last]
  rfl

theorem signExtended_toInt (imm : BitVec 16) : (signExtended imm).toInt = imm.toInt :=
  BitVec.toInt_signExtend_of_le (by decide)

theorem addu_computes (s : State) (rd rs rt : Reg) :
    ∃ t, exec (.addu rd rs rt) s = .next t ∧
      ComputesRegister s t (s.defined rs ∧ s.defined rt) rd (s.readGpr rs + s.readGpr rt) :=
  s.finish_computes_two rd rs rt (f := (· + ·)) fun _ _ => rfl

/-- ADD, ADDI and SUB either do what their unsigned form does or raise Overflow. -/
theorem State.trapOverflow_or (s : State) (overflows : Bool) (o : Outcome) :
    (if overflows then s.takeException (.plain .overflow) else o) = o ∨
      ∃ t info, (if overflows then s.takeException (.plain .overflow) else o) = .next t ∧
        t.raised = some info ∧ info.kind = .overflow := by
  cases overflows with
  | false => exact .inl rfl
  | true => exact .inr ⟨_, _, rfl, State.withException_raised _ _, rfl⟩

/-- Settles O1: the unsigned forms end in a register write; each signed form adds the overflow check to it. -/
theorem unsignedArithmeticNeverOverflows : Obligations.UnsignedArithmeticNeverOverflows := by
  intro s rd rs rt imm
  rw [← signExtended_eq_signFilled]
  refine ⟨s.finish_computes_one rt rs .first (f := (· + signExtended imm)) fun _ => rfl, addu_computes s rd rs rt,
    s.finish_computes_two rd rs rt (f := (· - ·)) fun _ _ => rfl, fun i j hij => ?_⟩
  simp only [List.mem_cons, Prod.mk.injEq, List.not_mem_nil, or_false] at hij
  obtain ⟨rfl, rfl⟩ | ⟨rfl, rfl⟩ | ⟨rfl, rfl⟩ := hij
  · exact s.trapOverflow_or _ _
  · exact s.trapOverflow_or _ _
  · exact s.trapOverflow_or _ _

/-- An addition or subtraction with the integer result `n` and a check that says when `n` is out of range: it writes `n`
or takes Overflow. -/
theorem State.trapOverflow_by_range (s : State) (rd : Reg) {overflows : Bool} {v : Word} {n : Int}
    (hov : overflows = true ↔ ¬ fitsSigned n) (hv : v = BitVec.ofInt 32 n) :
    (fitsSigned n → ∃ t, (if overflows then s.takeException (.plain .overflow) else s.finish rd v) = .next t ∧
      ComputesRegister s t True rd (BitVec.ofInt 32 n)) ∧
    (¬ fitsSigned n → ∃ t, (if overflows then s.takeException (.plain .overflow) else s.finish rd v) = .next t ∧
      TakesException s t .overflow none none) := by
  refine ⟨fun hfits => ?_, fun hout => ?_⟩
  · rw [if_neg fun h => hov.mp h hfits]
    exact State.finish_computes fun _ => hv
  · rw [if_pos (hov.mpr hout)]
    exact ⟨_, rfl, s.withException_takes _⟩

theorem add_eq_ofInt (a b : Word) : a + b = BitVec.ofInt 32 (a.toInt + b.toInt) := by
  rw [BitVec.ofInt_add, BitVec.ofInt_toInt, BitVec.ofInt_toInt]

theorem sub_eq_ofInt (a b : Word) : a - b = BitVec.ofInt 32 (a.toInt - b.toInt) := by
  rw [Int.sub_eq_add_neg, BitVec.ofInt_add, BitVec.ofInt_neg, BitVec.ofInt_toInt, BitVec.ofInt_toInt,
    BitVec.sub_eq_add_neg]

/-- Settles O2: the condition each meaning uses is the range of its integer result (O3). -/
theorem signedArithmeticWritesOrOverflows : Obligations.SignedArithmeticWritesOrOverflows := by
  intro s rd rs rt imm hrs
  have hadd (r : Reg) (b : Word) :=
    s.trapOverflow_by_range r (addOverflows_iff_not_fitsSigned (s.readGpr rs) b) (add_eq_ofInt _ _)
  obtain ⟨add_writes, add_raises⟩ := hadd rd (s.readGpr rt)
  obtain ⟨addi_writes, addi_raises⟩ := hadd rt (signExtended imm)
  obtain ⟨sub_writes, sub_raises⟩ := s.trapOverflow_by_range rd
    (subOverflows_iff_not_fitsSigned (s.readGpr rs) (s.readGpr rt)) (sub_eq_ofInt _ _)
  rw [signExtended_toInt] at addi_writes addi_raises
  simp only [exec, execAdd, execAddi, execSub, State.readOperand_of_defined hrs]
  refine ⟨fun hrt => ?_, fun hrt => ?_, addi_writes, addi_raises, fun hrt => ?_, fun hrt => ?_⟩ <;>
    rw [State.readOperand_of_defined hrt]
  · exact add_writes
  · exact add_raises
  · exact sub_writes
  · exact sub_raises

end Sys2Proof.Machine
end

section
/-! PROOFS. Logical instructions and LUI (O4, O5; 41_computational.md R138 to R145). -/

namespace Sys2Proof.Machine

theorem zeroExtended_eq_append (imm : BitVec 16) : zeroExtended imm = 0#16 ++ imm :=
  BitVec.setWidth_eq_append (by decide)

theorem halves_append (a : Word) : a.extractLsb' 16 16 ++ a.extractLsb' 0 16 = a := by
  rw [extract_append a 0 16 16, BitVec.extractLsb'_eq_self]

/-- ANDI as its Operation line writes it: zeros, and the low half combined (R139). -/
theorem and_zeroExtended (imm : BitVec 16) (a : Word) :
    a &&& zeroExtended imm = 0#16 ++ (imm &&& a.extractLsb' 0 16) := by
  conv_lhs => rw [← halves_append a]
  rw [zeroExtended_eq_append, BitVec.and_append, BitVec.and_zero, BitVec.and_comm]

/-- ORI as its Operation line writes it: the high half, and the low half combined (R141). -/
theorem or_zeroExtended (imm : BitVec 16) (a : Word) :
    a ||| zeroExtended imm = a.extractLsb' 16 16 ++ (imm ||| a.extractLsb' 0 16) := by
  conv_lhs => rw [← halves_append a]
  rw [zeroExtended_eq_append, BitVec.or_append, BitVec.or_zero, BitVec.or_comm]

theorem xor_zeroExtended (imm : BitVec 16) (a : Word) : a ^^^ zeroExtended imm = a ^^^ (0#16 ++ imm) := by
  rw [zeroExtended_eq_append]

theorem ori_computes (s : State) (rt rs : Reg) (imm : BitVec 16) :
    ∃ t, exec (.ori rt rs imm) s = .next t ∧ ComputesRegister s t (s.defined rs) rt
      ((s.readGpr rs).extractLsb' 16 16 ++ (imm ||| (s.readGpr rs).extractLsb' 0 16)) :=
  s.finish_computes_one rt rs .first (or_zeroExtended imm)

/-- Settles O4: AND, OR, XOR and NOR as they stand, the immediate forms by the halves of the register. -/
theorem logicalInstructionsCombineBits : Obligations.LogicalInstructionsCombineBits := fun s rd rs rt imm =>
  ⟨s.finish_computes_two rd rs rt (f := (· &&& ·)) fun _ _ => rfl,
    s.finish_computes_two rd rs rt (f := (· ||| ·)) fun _ _ => rfl,
    s.finish_computes_two rd rs rt (f := (· ^^^ ·)) fun _ _ => rfl,
    s.finish_computes_two rd rs rt (f := fun a b => ~~~(a ||| b)) fun _ _ => rfl,
    s.finish_computes_one rt rs .first (and_zeroExtended imm),
    ori_computes s rt rs imm,
    s.finish_computes_one rt rs .first (xor_zeroExtended imm)⟩

/-- The low half put by ORI where LUI left zeros. -/
theorem lui_ori_halves (c : Word) :
    (c.extractLsb' 16 16 ++ 0#16).extractLsb' 16 16 ++
      (c.extractLsb' 0 16 ||| (c.extractLsb' 16 16 ++ 0#16).extractLsb' 0 16) = c := by
  rw [BitVec.extractLsb'_append_eq_left, BitVec.extractLsb'_append_eq_right, BitVec.or_zero, halves_append]

/-- Settles O5: after LUI no load is pending, so ORI reads and writes a defined register. -/
theorem luiAndOriBuildAConstant : Obligations.LuiAndOriBuildAConstant := by
  intro s rt c
  obtain ⟨t, ht, hlui⟩ : ∃ t, exec (.lui rt (c.extractLsb' 16 16)) s = .next t ∧
      ComputesRegister s t True rt (c.extractLsb' 16 16 ++ 0#16) := State.finish_computes fun _ => rfl
  refine ⟨t, ht, hlui, fun hrt hzero => ?_⟩
  obtain ⟨u, hu, hori⟩ := ori_computes t rt rt (c.extractLsb' 0 16)
  refine ⟨u, hu, ?_⟩
  rw [hori.value (hlui.defined rt) (hlui.defined rt) hzero, hlui.value trivial hrt hzero, lui_ori_halves]

end Sys2Proof.Machine
end

section
/-! PROOFS. Set on less than, and the carry of an unsigned addition (O6, O9; 41_computational.md R146 to R149, R158). -/

namespace Sys2Proof.Machine

theorem truthValue_slt (a b : Word) : truthValue (a.slt b) = if a.toInt < b.toInt then 1#32 else 0#32 := by
  simp only [truthValue, BitVec.slt_eq_decide, decide_eq_true_eq]

theorem truthValue_ult (a b : Word) : truthValue (a.ult b) = if a.toNat < b.toNat then 1#32 else 0#32 := by
  simp only [truthValue, BitVec.ult_eq_decide, decide_eq_true_eq]

theorem truthValue_slt_signExtended (imm : BitVec 16) (a : Word) :
    truthValue (a.slt (signExtended imm)) = if a.toInt < imm.toInt then 1#32 else 0#32 := by
  rw [truthValue_slt, signExtended_toInt]

theorem truthValue_ult_signExtended (imm : BitVec 16) (a : Word) :
    truthValue (a.ult (signExtended imm)) = if a.toNat < (signFilled imm).toNat then 1#32 else 0#32 := by
  rw [truthValue_ult, signExtended_eq_signFilled]

theorem sltu_computes (s : State) (rd rs rt : Reg) :
    ∃ t, exec (.sltu rd rs rt) s = .next t ∧ ComputesRegister s t (s.defined rs ∧ s.defined rt) rd
      (if (s.readGpr rs).toNat < (s.readGpr rt).toNat then 1#32 else 0#32) :=
  s.finish_computes_two rd rs rt truthValue_ult

/-- Settles O6: a comparison writes the truth value of its integer relation; the immediates are sign-extended first. -/
theorem comparisonsWriteOneOrZero : Obligations.ComparisonsWriteOneOrZero := fun s rd rs rt imm =>
  ⟨s.finish_computes_two rd rs rt truthValue_slt,
    s.finish_computes_one rt rs .first (truthValue_slt_signExtended imm),
    s.finish_computes_one rt rs .first (truthValue_ult_signExtended imm),
    sltu_computes s rd rs rt⟩

/-- A sum modulo 2^32 is less than a summand exactly when the addition carries (R158). -/
theorem add_lt_left_iff_carries (a b : Word) : (a + b).toNat < a.toNat ↔ 2 ^ 32 ≤ a.toNat + b.toNat := by
  have ha := a.isLt
  have hb := b.isLt
  rw [BitVec.toNat_add]
  omega

/-- Settles O9: SLTU compares the sum with the summand the addition left in `rs`. -/
theorem carryRecoveredBySltu : Obligations.CarryRecoveredBySltu := by
  intro s rd rs rt rc hidle hne hrd hrc
  have hdef := State.defined_of_idle hidle
  obtain ⟨t, ht, hadd⟩ := addu_computes s rd rs rt
  obtain ⟨u, hu, hcmp⟩ := sltu_computes t rc rd rs
  refine ⟨t, u, ht, hu, ?_⟩
  rw [hcmp.value ⟨hadd.defined rd, hadd.defined rs⟩ (hadd.defined rc) hrc,
    hadd.value ⟨hdef rs, hdef rt⟩ (hdef rd) hrd, hadd.other hne.symm (hdef rs)]
  simp only [add_lt_left_iff_carries]

end Sys2Proof.Machine
end

section
/-! PROOFS. Shifts, bit by bit (O7, O8; 41_computational.md R150 to R156). -/

namespace Sys2Proof.Machine

theorem variableShift_eq_mod (count : Word) : variableShift count = count.toNat % 32 := by
  simp [variableShift, BitVec.extractLsb'_toNat]

section
variable (v : Word) (n : Nat) {j : Nat} (hj : j < 32)
include hj

theorem shiftLeft_bit : (shiftLeft v n).getLsbD j = if j < n then false else v.getLsbD (j - n) := by
  rw [shiftLeft, BitVec.getLsbD_shiftLeft]
  by_cases h : j < n <;> simp [h, hj]

theorem shiftRightArithmetic_bit :
    (shiftRightArithmetic v n).getLsbD j = if 32 ≤ j + n then v.getLsbD 31 else v.getLsbD (j + n) := by
  have hlow : (!decide (32 ≤ j)) = true := by simp [hj]
  rw [shiftRightArithmetic, BitVec.getLsbD_sshiftRight, ← signBit_eq_msb, signBit, hlow, Bool.true_and,
    Nat.add_comm n j]
  by_cases h : j + n < 32
  · rw [if_pos h, if_neg (by omega)]
  · rw [if_neg h, if_pos (by omega)]

end

theorem shiftRightLogical_bit (v : Word) (n j : Nat) :
    (shiftRightLogical v n).getLsbD j = if 32 ≤ j + n then false else v.getLsbD (j + n) := by
  rw [shiftRightLogical, BitVec.getLsbD_ushiftRight, Nat.add_comm n j]
  split
  · next h => exact BitVec.getLsbD_of_ge v _ h
  · rfl

/-- A computed value, told by what holds of it. -/
theorem exists_computes_of {s : State} {o : Outcome} {sources : Prop} {rd : Reg} {v : Word} {P : Word → Prop}
    (h : ∃ t, o = .next t ∧ ComputesRegister s t sources rd v) (hv : P v) :
    ∃ t v, o = .next t ∧ ComputesRegister s t sources rd v ∧ P v := by
  obtain ⟨t, ht, hc⟩ := h
  exact ⟨t, v, ht, hc, hv⟩

/-- Settles O7: the amount of a constant shift is its field. -/
theorem constantShiftsMoveBits : Obligations.ConstantShiftsMoveBits := fun s rd rt sa =>
  ⟨exists_computes_of (s.finish_computes_one rd rt .second (f := (shiftLeft · (constantShift sa))) fun _ => rfl)
      fun _ => shiftLeft_bit _ _,
    exists_computes_of
      (s.finish_computes_one rd rt .second (f := (shiftRightLogical · (constantShift sa))) fun _ => rfl)
      fun _ _ => shiftRightLogical_bit _ _ _,
    exists_computes_of
      (s.finish_computes_one rd rt .second (f := (shiftRightArithmetic · (constantShift sa))) fun _ => rfl)
      fun _ => shiftRightArithmetic_bit _ _⟩

/-- A variable shift by any of the three shift operations: the amount is the count register modulo 32 (R150). -/
theorem State.finish_computes_shift (s : State) (rd rt rs : Reg) (shift : Word → Nat → Word) :
    ∃ t, s.finish rd (shift (s.readOperand .second rt) (variableShift (s.readOperand .first rs))) = .next t ∧
      ComputesRegister s t (s.defined rs ∧ s.defined rt) rd (shift (s.readGpr rt) ((s.readGpr rs).toNat % 32)) :=
  s.finish_computes_two rd rs rt (f := fun count v => shift v (variableShift count)) fun count _ => by
    rw [variableShift_eq_mod]

/-- Settles O8: as O7, with the amount in the low five bits of the count register. -/
theorem variableShiftsMoveBits : Obligations.VariableShiftsMoveBits := by
  rintro s rd rt rs n rfl
  exact ⟨exists_computes_of (s.finish_computes_shift rd rt rs shiftLeft) fun _ => shiftLeft_bit _ _,
    exists_computes_of (s.finish_computes_shift rd rt rs shiftRightLogical) fun _ _ => shiftRightLogical_bit _ _ _,
    exists_computes_of (s.finish_computes_shift rd rt rs shiftRightArithmetic) fun _ =>
      shiftRightArithmetic_bit _ _⟩

end Sys2Proof.Machine
end

section
/-! PROOFS. Jumps and branches: what each leaves outside a delay slot, and where each goes (O31, O32, O33;
42_jump_branch.md R172 to R182). -/

namespace Sys2Proof.Machine

/-! ## The end of a jump -/

section
variable (s : State)

theorem State.jumpStep_of_not_inDelay (h : s.inDelay = false) (o : Outcome) : s.jumpStep o = o := by
  simp [State.jumpStep, h]

/-- A jump that does not link: the pending load arrives, and the delay slot is next. -/
theorem State.transfer_jumps (next : Word) :
    RegistersArrive s (s.commitPending.transfer next) ∧ Quiet s (s.commitPending.transfer next) ∧
      JumpsTo s (s.commitPending.transfer next) next :=
  ⟨s.commitPending_arrives, by simp [Quiet, SameMemory, State.sameFixedParts], by simp [JumpsTo]⟩

theorem State.jumpStep_jumps (h : s.inDelay = false) (next : Word) :
    ∃ t, s.jumpStep (.next (s.commitPending.transfer next)) = .next t ∧ RegistersArrive s t ∧ Quiet s t ∧
      JumpsTo s t next :=
  ⟨_, s.jumpStep_of_not_inDelay h _, s.transfer_jumps next⟩

/-- A jump that links: the program counter pair apart, it writes a register as a computational instruction does. -/
theorem State.jumpStep_links (h : s.inDelay = false) (link : Reg) (v next : Word) :
    ∃ t, s.jumpStep (.next ((s.writeResult link v).transfer next)) = .next t ∧ WritesRegister s t True link v ∧
      Quiet s t ∧ JumpsTo s t next :=
  ⟨_, s.jumpStep_of_not_inDelay h _, State.writeResult_writes fun _ => rfl,
    by simp [Quiet, SameMemory, State.sameFixedParts], by simp [JumpsTo]⟩

/-- A conditional branch goes to one of two places; on defined sources its condition `c` says to which. -/
theorem State.jumpStep_branches (h : s.inDelay = false) {taken : Bool} {c sources : Prop} [Decidable c]
    (hc : sources → (taken = true ↔ c)) (offset : BitVec 16) :
    ∃ t, s.jumpStep (.next (s.commitPending.transfer (s.branchNext taken offset))) = .next t ∧
      RegistersArrive s t ∧ Quiet s t ∧
      (JumpsTo s t (branchTarget s.pc offset) ∨ JumpsTo s t (s.npc + 4#32)) ∧
      (sources → JumpsTo s t (if c then branchTarget s.pc offset else s.npc + 4#32)) := by
  obtain ⟨t, ht, hregs, hquiet, hjump⟩ := s.jumpStep_jumps h (s.branchNext taken offset)
  refine ⟨t, ht, hregs, hquiet, ?_, fun hsrc => ?_⟩
  · cases taken with
    | true => exact .inl hjump
    | false => exact .inr hjump
  · simpa only [State.branchNext, hc hsrc] using hjump

end

/-! ## The targets -/

theorem branchOffset_eq_ofInt (offset : BitVec 16) : branchOffset offset = BitVec.ofInt 32 (4 * offset.toInt) := by
  have hbytes : (offset ++ 0#2).toInt = 4 * offset.toInt := BitVec.toInt_append_zero
  rw [← hbytes]
  rfl

/-- The offset counts words from the delay slot (42_jump_branch.md R172). -/
theorem branchTarget_eq_ofInt (pc : Word) (offset : BitVec 16) :
    branchTarget pc offset = BitVec.ofInt 32 (pc.toNat + 4 + 4 * offset.toInt) := by
  have hpc : BitVec.ofInt 32 pc.toNat = pc := by rw [BitVec.ofInt_natCast, BitVec.ofNat_toNat, BitVec.setWidth_eq]
  rw [BitVec.ofInt_add, BitVec.ofInt_add, hpc, ← branchOffset_eq_ofInt]
  rfl

/-- The field counts words from the start of the 256 MB region of the delay slot (42_jump_branch.md R176). -/
theorem jumpTarget_eq_ofNat (pc : Word) (target : BitVec 26) :
    jumpTarget pc target = BitVec.ofNat 32 ((pc + 4#32).toNat / 2 ^ 28 * 2 ^ 28 + 4 * target.toNat) := by
  have hslot := (pc + 4#32).isLt
  have htarget := target.isLt
  apply BitVec.eq_of_toNat_eq
  rw [jumpTarget, append_toNat, append_toNat, BitVec.extractLsb'_toNat, Nat.shiftRight_eq_div_pow]
  simp only [BitVec.toNat_ofNat]
  omega

/-- A word with JR's function code and a non-zero `rd` field is rejected (30_encoding.md R67, R71). -/
theorem decode_jr_of_rd_ne_zero {w : Word} (hop : opField w = 0b000000#6) (hfunction : functionField w = 0b001000#6)
    (hrd : rdField w ≠ 0#5) : decode w = .rejected (.nonzeroField "JR") := by
  have hzero : (rtField w == 0 && rdField w == 0 && saField w == 0) = false := by simp [hrd]
  have hrow : decodeSpecial w =
      ifZero (rtField w == 0 && rdField w == 0 && saField w == 0) "JR" (.jr (rsField w)) := by
    rw [decodeSpecial, hfunction]
    rfl
  rw [decode_of_special hop, hrow, hzero]
  rfl

/-! ## The obligations -/

/-- Settles O31: BEQ by its condition, BNE by the negation of it. -/
theorem branchesGoToTargetAfterTheSlot : Obligations.BranchesGoToTargetAfterTheSlot := by
  rintro s rs rt offset target hd rfl
  rw [← branchTarget_eq_ofInt]
  have hreads (h : s.defined rs = true ∧ s.defined rt = true) :
      s.readOperand .first rs = s.readOperand .second rt ↔ s.readGpr rs = s.readGpr rt := by
    rw [State.readOperand_of_defined h.1, State.readOperand_of_defined h.2]
  constructor
  · obtain ⟨t, ht, hregs, hquiet, hone, hcond⟩ :=
      s.jumpStep_branches hd (fun h => beq_iff_eq.trans (hreads h)) offset
    exact ⟨t, ht, hregs, hquiet, hone, fun hrs hrt => hcond ⟨hrs, hrt⟩⟩
  · obtain ⟨t, ht, hregs, hquiet, hone, hcond⟩ :=
      s.jumpStep_branches hd (fun h => bne_iff_ne.trans (not_congr (hreads h))) offset
    simp only [ite_not] at hcond
    exact ⟨t, ht, hregs, hquiet, hone, fun hrs hrt => hcond ⟨hrs, hrt⟩⟩

/-- Settles O32: J by the region of the delay slot, JR by its source, the rejected words by the row of the decoder. -/
theorem jumpsGoToTargetAfterTheSlot : Obligations.JumpsGoToTargetAfterTheSlot := by
  intro s rs target hd
  rw [← jumpTarget_eq_ofNat]
  refine ⟨s.jumpStep_jumps hd _, ?_, fun w => decode_jr_of_rd_ne_zero⟩
  obtain ⟨t, ht, hregs, hquiet, hjump⟩ := s.jumpStep_jumps hd (s.readOperand .first rs)
  exact ⟨t, _, ht, hregs, hquiet, hjump, fun hrs => State.readOperand_of_defined hrs _⟩

/-- JALR with different registers is a linking jump to its source (42_jump_branch.md R179). -/
theorem exec_jalr_of_ne {rd rs : Reg} (h : rs ≠ rd) (s : State) :
    exec (.jalr rd rs) s =
      s.jumpStep (.next ((s.writeResult rd (linkAddress s.pc)).transfer (s.readOperand .first rs))) :=
  congrArg s.jumpStep (if_neg h)

/-- JALR with equal registers has no next state (42_jump_branch.md R181). -/
theorem exec_jalr_self (r : Reg) (s : State) : exec (.jalr r r) s = s.jumpStep (.fault .jalrSameRegister) :=
  congrArg s.jumpStep (if_pos rfl)

/-- Settles O33: the two linking jumps, and the stop of JALR with equal registers. -/
theorem linkingJumpsLinkAndJump : Obligations.LinkingJumpsLinkAndJump := by
  intro s rd rs target hd
  rw [← jumpTarget_eq_ofNat]
  refine ⟨s.jumpStep_links hd _ _ _, fun hne => ?_, ?_⟩
  · obtain ⟨t, ht, hwrites, hquiet, hjump⟩ := s.jumpStep_links hd rd (linkAddress s.pc) (s.readOperand .first rs)
    exact ⟨t, _, (exec_jalr_of_ne hne s).trans ht, hwrites, hquiet, hjump,
      fun hrs => State.readOperand_of_defined hrs _⟩
  · rintro rfl
    rw [exec_jalr_self, s.jumpStep_of_not_inDelay hd]

end Sys2Proof.Machine
end

section
/-! PROOFS. Where a step can fault (O34; 42_jump_branch.md R178, 70_reset_and_hazards.md R254, R259). -/

namespace Sys2Proof.Machine

section
variable (s : State) (f : Fault)

/-! ## The ends of every other instruction do not fault -/

theorem State.takeException_ne_fault (r : Raise) : s.takeException r ≠ .fault f := by
  simp [State.takeException]

theorem State.finish_ne_fault (rd : Reg) (v : Word) : s.finish rd v ≠ .fault f := by
  simp [State.finish]

/-- ADD, ADDI and SUB raise or write; neither is a fault. -/
theorem State.trapOrFinish_ne_fault (overflows : Bool) (r : Raise) (rd : Reg) (v : Word) :
    (if overflows then s.takeException r else s.finish rd v) ≠ .fault f := by
  split
  · exact s.takeException_ne_fault f r
  · exact s.finish_ne_fault f rd v

theorem State.finishLanes_ne_fault (rt : Reg) (lanes : Except Raise Lanes) (value : Lanes → Word) :
    s.finishLanes rt lanes value ≠ .fault f := by
  cases lanes with
  | error r => exact s.takeException_ne_fault f r
  | ok m => simp [State.finishLanes, State.finishLoad]

theorem State.finishStore_ne_fault (stored : Except Raise State) : s.finishStore stored ≠ .fault f := by
  cases stored with
  | error r => exact s.takeException_ne_fault f r
  | ok t => simp [State.finishStore]

theorem alphaRow_refused_ne_fault (why : Refusal) : alphaRow (.refused why) s ≠ .fault f := by
  unfold alphaRow
  split
  · exact s.takeException_ne_fault f _
  · simp

theorem betaRow_ne_fault (mnemonic : String) : betaRow mnemonic s ≠ .fault f := by
  unfold betaRow refuseNamedOnly
  split <;> simp

/-- No instruction faults but the jumps and branches: each other one goes on or is refused. -/
theorem exec_ne_fault {i : Instr} (hf : i.family ≠ .jump) : exec i s ≠ .fault f := by
  cases i with
  | add | addi | sub => exact s.trapOrFinish_ne_fault f _ _ _ _
  | addiu | addu | subu | and | andi | or | ori | xor | xori | nor | lui | slt | slti | sltiu | sltu
  | sll | sllv | srl | srlv | sra | srav => exact s.finish_ne_fault f _ _
  | lb | lbu | lh | lhu | lw | lwl | lwr => exact s.finishLanes_ne_fault f _ _ _
  | sb | sh | sw | swl | swr => exact s.finishStore_ne_fault f _
  | beq | bne | j | jr | jal | jalr => exact absurd rfl hf
  | brk => exact s.takeException_ne_fault f _
  | beql | bnel | blezl | ldc1 | ldc2 | sdc1 | sdc2 | tge | tgeu | tlt | tltu | teq | tne =>
    exact alphaRow_refused_ne_fault s f _
  | bltzl | bgezl | tgei | teqi | tnei | bltzall | bgezall | tgeiu | tlti | tltiu => exact betaRow_ne_fault s f _
  | blez | cop0 | cop1 | cop2 | cop3 | ll | lwc1 | lwc2 | lwc3 | sc | swc1 | swc2 | swc3
  | syscall | mfhi | mthi | mflo | mtlo | mult | multu | div | divu
  | bltz | bgez | bltzal | bgezal => nofun

end

/-! ## Every jump is one operation, or the undefined JALR -/

/-- The register a jump links in; register 0, which no write reaches, for one that does not link. -/
def linkRegister (i : Instr) : Reg :=
  match i with
  | .jal _ => 31#5
  | .jalr rd _ => rd
  | _ => 0#5

/-- Where a jump or branch goes after its delay slot. -/
def jumpDestination (i : Instr) (s : State) : Word :=
  match i with
  | .beq rs rt offset => s.branchNext (s.readOperand .first rs == s.readOperand .second rt) offset
  | .bne rs rt offset => s.branchNext (s.readOperand .first rs != s.readOperand .second rt) offset
  | .j target | .jal target => jumpTarget s.pc target
  | .jr rs | .jalr _ rs => s.readOperand .first rs
  | _ => s.npc + 4#32

/-- The state a jump leaves: the link, then the delay slot and the destination. -/
def jumped (i : Instr) (s : State) : State :=
  (s.writeResult (linkRegister i) (linkAddress s.pc)).transfer (jumpDestination i s)

/-- The write of a jump that does not link is the commit of a pending load alone (10_state.md R11). -/
theorem State.writeResult_zero (s : State) (v : Word) : s.writeResult 0#5 v = s.commitPending :=
  s.commitPending.setReg_zero _

theorem jumped_of_no_link {i : Instr} {s : State} (h : linkRegister i = 0#5) :
    jumped i s = s.commitPending.transfer (jumpDestination i s) := by
  rw [jumped, h, s.writeResult_zero]

/-- A jump or branch outside a delay slot leaves `jumped i s` in every state, or is JALR with equal registers. -/
theorem exec_jump {i : Instr} (hf : i.family = .jump) :
    ((∀ r, i ≠ .jalr r r) ∧ ∀ s, exec i s = s.jumpStep (.next (jumped i s))) ∨
      ∀ s, exec i s = s.jumpStep (.fault .jalrSameRegister) := by
  cases i with
  | beq | bne | j | jr => exact .inl ⟨nofun, fun s => by rw [jumped_of_no_link rfl]; rfl⟩
  | jal => exact .inl ⟨nofun, fun _ => rfl⟩
  | jalr rd rs =>
    by_cases h : rs = rd
    · subst h
      exact .inr (exec_jalr_self rs)
    · exact .inl ⟨fun r e => by cases e; exact h rfl, exec_jalr_of_ne h⟩
  | _ => cases hf

/-- Of the two faults of a jump, the check of the delay slot gives one and nothing else does. -/
theorem State.jumpStep_eq_fault_iff (s : State) {o : Outcome} (h : o ≠ .fault .jumpInDelaySlot) :
    s.jumpStep o = .fault .jumpInDelaySlot ↔ s.inDelay = true := by
  unfold State.jumpStep
  cases s.inDelay with
  | true => simp
  | false => simp [h]

/-- Settles O34: a jump makes the check before anything else; every other instruction goes on or is refused. -/
theorem jumpInDelaySlotIsUndefined : Obligations.JumpInDelaySlotIsUndefined := by
  intro i s
  by_cases hf : i.family = .jump
  · rw [and_iff_right hf]
    obtain ⟨-, hexec⟩ | hexec := exec_jump hf
    · rw [hexec]
      exact s.jumpStep_eq_fault_iff nofun
    · rw [hexec]
      exact s.jumpStep_eq_fault_iff nofun
  · exact iff_of_false (exec_ne_fault s _ hf) fun ⟨hj, _⟩ => hf hj

end Sys2Proof.Machine
end

section
/-! PROOFS. A jump executed again after an exception in its delay slot (O37; 42_jump_branch.md R181, R183,
60_exceptions.md R218, log 28). -/

namespace Sys2Proof.Machine

/-! ## What a jump leaves -/

theorem jumped_jumpsTo (i : Instr) (s : State) : JumpsTo s (jumped i s) (jumpDestination i s) := by
  simp [JumpsTo, jumped]

theorem jumped_pc (i : Instr) (s : State) : (jumped i s).pc = s.npc := by
  simp [jumped]

theorem jumped_pending (i : Instr) (s : State) : (jumped i s).pending = none := by
  simp [jumped]

theorem jumped_mem (i : Instr) (s : State) : (jumped i s).mem = s.mem := by
  simp [jumped]

/-- With no load pending, a jump changes its link register alone. -/
theorem jumped_readGpr {i : Instr} {s : State} (h : s.pending = none) (x : Reg) :
    (jumped i s).readGpr x =
      if x = linkRegister i ∧ linkRegister i ≠ 0#5 then linkAddress s.pc else s.readGpr x := by
  rw [jumped, State.readGpr_transfer, s.writeResult_of_idle _ _ h, State.readGpr_setReg]

/-- The destination depends on the program counter pair and on the registers the jump does not link in: JALR reads
another register than it writes (42_jump_branch.md R181). -/
theorem jumpDestination_congr {i : Instr} {s w : State} (hne : ∀ r, i ≠ .jalr r r) (hs : s.pending = none)
    (hw : w.pending = none) (hpc : w.pc = s.pc) (hnpc : w.npc = s.npc)
    (hregs : ∀ x, ¬ (x = linkRegister i ∧ linkRegister i ≠ 0#5) → w.readGpr x = s.readGpr x) :
    jumpDestination i w = jumpDestination i s := by
  have hread (place : Place) (x : Reg) (hx : ¬ (x = linkRegister i ∧ linkRegister i ≠ 0#5)) :
      w.readOperand place x = s.readOperand place x := by
    rw [State.readOperand_of_defined (State.defined_of_idle hw x),
      State.readOperand_of_defined (State.defined_of_idle hs x), hregs x hx]
  cases i with
  | beq rs rt offset | bne rs rt offset =>
    simp only [jumpDestination, State.branchNext, hpc, hnpc, hread .first rs (fun h => h.2 rfl),
      hread .second rt (fun h => h.2 rfl)]
  | j | jal => simp only [jumpDestination, hpc]
  | jr rs => exact hread .first rs fun h => h.2 rfl
  | jalr rd rs => exact hread .first rs fun ⟨hrs, _⟩ => hne rd (congrArg (Instr.jalr rd) hrs)
  | _ => exact congrArg (· + 4#32) hnpc

/-! ## The state in which the jump is executed again -/

/-- `w` is the state in which the jump that led from `s` to `t` is executed again: it stands where `s` stood, with the
registers and the memory of `t`. -/
structure Resumes (s t w : State) : Prop where
  pc : w.pc = s.pc
  npc : w.npc = s.npc
  inDelay : w.inDelay = false
  pending : w.pending = none
  regs : ∀ x, w.readGpr x = t.readGpr x
  mem : w.mem = t.mem

/-- An exception in the delay slot saves the address of the jump, and the restart goes back to it (60_exceptions.md
R217, R218). -/
theorem resumes_restart {s t : State} {next : Word} (hnpc : s.npc = s.pc + 4#32) (hjump : JumpsTo s t next)
    (hidle : t.pending = none) (r : Raise) : Resumes s t (t.withException r).restart := by
  obtain ⟨hpc, -, hdelay⟩ := hjump
  have hepc : t.restartAddress = s.pc := by
    rw [State.restartAddress, if_pos hdelay, hpc, hnpc, BitVec.add_sub_cancel]
  exact {
    pc := hepc
    npc := by simp [hepc, hnpc]
    inDelay := rfl
    pending := by simp
    regs := fun x => by simp [t.commitPending_none hidle]
    mem := by simp }

/-- Executed again, a jump leaves what it left: the link is the same and is not a source. -/
theorem Resumes.jumped_again {i : Instr} {s w : State} (h : Resumes s (jumped i s) w) (hne : ∀ r, i ≠ .jalr r r)
    (hidle : s.pending = none) :
    (∀ x, (jumped i w).readGpr x = (jumped i s).readGpr x) ∧
      jumpDestination i w = jumpDestination i s := by
  constructor
  · intro x
    rw [jumped_readGpr h.pending, h.regs, jumped_readGpr hidle, h.pc]
    split <;> rfl
  · refine jumpDestination_congr hne hidle h.pending h.pc h.npc fun x hx => ?_
    rw [h.regs, jumped_readGpr hidle, if_neg hx]

/-- Settles O37: the restart stands at the jump again, with its link in place. -/
theorem jumpsAreRestartable : Obligations.JumpsAreRestartable := by
  intro i s t r hf hidle hnpc h
  obtain ⟨hne, hexec⟩ | hexec := exec_jump hf
  · rw [hexec] at h
    obtain ⟨-, ho⟩ := s.jumpStep_next t _ h
    cases ho
    have hresumes := resumes_restart hnpc (jumped_jumpsTo i s) (jumped_pending i s) r
    obtain ⟨hregs, hdest⟩ := hresumes.jumped_again hne hidle
    refine ⟨hresumes.pc, jumped i _, ?_, hregs, fun a => ?_, ?_, hdest, rfl, ?_⟩
    · rw [hexec, State.jumpStep_of_not_inDelay _ hresumes.inDelay]
    · rw [jumped_mem, hresumes.mem]
    · rw [jumped_pc, jumped_pc, hresumes.npc]
    · rw [jumped_pending, jumped_pending]
  · rw [hexec] at h
    obtain ⟨-, ho⟩ := s.jumpStep_next t _ h
    cases ho

end Sys2Proof.Machine
end

section
/-! PROOFS. The coprocessor rows with no mark, and the cell a COPz word selects (O51; 43_coprocessor.md R191, R194,
30_encoding.md R64, R68, R70). -/

namespace Sys2Proof

/-! ## The two tables -/

/-- The field values of the lost column 7 (30_encoding.md R64). -/
theorem lostColumn_iff (x : BitVec 5) :
    x.toNat % 8 = 7 ↔ x = 0b00111#5 ∨ x = 0b01111#5 ∨ x = 0b10111#5 ∨ x = 0b11111#5 := by
  revert x
  decide

/-- The `rt` table as a chain of tests: the named cells, then the lost column, then gamma. -/
theorem copBranchForm_eq_ite (rt : Reg) (low : BitVec 16) :
    copBranchForm rt low =
      if rt = 0b00000#5 then .bcf low else if rt = 0b00001#5 then .bct low else if rt = 0b00010#5 then .bcfl low
      else if rt = 0b00011#5 then .bctl low else if rt.toNat % 8 = 7 then .lostRt rt low else .gammaRt rt low := by
  unfold copBranchForm
  split
  -- gamma: none of the tests holds
  case h_9 => simp_all [lostColumn_iff]
  all_goals rfl

/-- The `rs` table as a chain of tests, for the rows it holds (bit 25 clear) and outside BC. -/
theorem copMoveForm_eq_ite {rs : Reg} (low : BitVec 21) (hrow : rs.toNat < 16) (hbc : rs ≠ 0b01000#5) :
    copMoveForm rs low =
      if rs = 0b00000#5 then .mf low else if rs = 0b00010#5 then .cf low else if rs = 0b00100#5 then .mt low
      else if rs = 0b00110#5 then .ct low else if rs.toNat % 8 = 7 then .lostRs rs low else .gammaRs rs low := by
  have h23 : rs ≠ 0b10111#5 := by rintro rfl; simp at hrow
  have h31 : rs ≠ 0b11111#5 := by rintro rfl; simp at hrow
  unfold copMoveForm
  split
  case h_5 => contradiction
  -- gamma: none of the tests holds
  case h_8 => simp_all [lostColumn_iff]
  all_goals rfl

/-! ## Which table the bits select -/

/-- Bit 25 set selects CO. -/
theorem copForm_co (operation : BitVec 25) : copForm (1#1 ++ operation) = .co operation := by
  have hbit : (1#1 ++ operation).getLsbD 25 = true := by
    rw [BitVec.getLsbD_append, if_neg (by decide)]
    rfl
  unfold copForm
  rw [if_pos hbit, BitVec.extractLsb'_append_eq_right]

/-- Bit 25 clear, that is `rs` below 16, selects the `rs` table. -/
theorem copForm_append {rs : Reg} (low : BitVec 21) (hrow : rs.toNat < 16) :
    copForm (rs ++ low) = copMoveForm rs low := by
  have hbit : (rs ++ low).getLsbD 25 = false := by
    rw [BitVec.getLsbD_append, if_neg (by decide)]
    exact Nat.testBit_lt_two_pow hrow
  unfold copForm
  rw [hbit, if_neg Bool.false_ne_true, BitVec.extractLsb'_append_eq_left, BitVec.extractLsb'_append_eq_right]

/-- Under BC the `rt` table selects. -/
theorem copForm_bc (rt : Reg) (low : BitVec 16) : copForm (0b01000#5 ++ rt ++ low) = copBranchForm rt low := by
  have hfields : copMoveForm 0b01000#5 (rt ++ low) = copBranchForm rt low := by
    change copBranchForm ((rt ++ low).extractLsb' 16 5) ((rt ++ low).extractLsb' 0 16) = copBranchForm rt low
    rw [BitVec.extractLsb'_append_eq_left, BitVec.extractLsb'_append_eq_right]
  rw [append_assoc_fields, copForm_append _ (by decide), hfields]

end Sys2Proof

namespace Sys2Proof.Machine

/-- Settles O51: each row listed runs as its refusal; the selected cell is read off the tables. -/
theorem coprocessorRowsAreRefused : Obligations.CoprocessorRowsAreRefused := by
  refine ⟨fun s a i m => ⟨fun hmem => ?_, fun hmem => ?_⟩, copForm_co, fun rs low hrow hbc => ?_, fun rt low => ?_⟩
  · simp only [List.mem_cons, Prod.mk.injEq, List.not_mem_nil, or_false] at hmem
    obtain ⟨rfl, rfl⟩ | ⟨rfl, rfl⟩ | ⟨rfl, rfl⟩ | ⟨rfl, rfl⟩ | ⟨rfl, rfl⟩ | ⟨rfl, rfl⟩ := hmem
    all_goals rfl
  · simp only [List.mem_cons, Prod.mk.injEq, List.not_mem_nil, or_false] at hmem
    obtain ⟨rfl, rfl⟩ | ⟨rfl, rfl⟩ | ⟨rfl, rfl⟩ | ⟨rfl, rfl⟩ := hmem
    all_goals rfl
  · rw [copForm_append low hrow, copMoveForm_eq_ite low hrow hbc]
  · rw [copForm_bc, copBranchForm_eq_ite]

end Sys2Proof.Machine
end

section
/-! PROOFS. The special instructions: BREAK, and the rows that are only named (O41, O50; 44_special.md R200 to R202). -/

namespace Sys2Proof.Machine

/-- BREAK is the shared operation that takes an exception, whatever its code (R200). -/
theorem exec_brk_eq_takeException (code : BitVec 20) (s : State) :
    exec (.brk code) s = s.takeException (.plain .breakpoint) := rfl

/-- Settles O41: the state BREAK answers is the one that taking Breakpoint leaves, with no address and no access. -/
theorem breakRaisesBreakpoint : Obligations.BreakRaisesBreakpoint := by
  intro s code
  exact ⟨s.withException (.plain .breakpoint), exec_brk_eq_takeException code s, s.withException_takes _⟩

/-- Settles O50: each row listed runs as the refusal by name with its mnemonic. -/
theorem namedOnlyRowsAreRefused : Obligations.NamedOnlyRowsAreRefused := by
  intro s a c rs low i m hmem
  have hrow : exec i s = refuseNamedOnly m := by
    simp only [List.mem_cons, Prod.mk.injEq, List.not_mem_nil, or_false] at hmem
    obtain ⟨rfl, rfl⟩ | ⟨rfl, rfl⟩ | ⟨rfl, rfl⟩ | ⟨rfl, rfl⟩ | ⟨rfl, rfl⟩ | ⟨rfl, rfl⟩ | ⟨rfl, rfl⟩ | ⟨rfl, rfl⟩ |
      ⟨rfl, rfl⟩ | ⟨rfl, rfl⟩ | ⟨rfl, rfl⟩ | ⟨rfl, rfl⟩ | ⟨rfl, rfl⟩ | ⟨rfl, rfl⟩ | ⟨rfl, rfl⟩ | ⟨rfl, rfl⟩ := hmem
    all_goals rfl
  rw [hrow, refuseNamedOnly]

end Sys2Proof.Machine
end

section
/-! PROOFS. A step that records an exception (O38, O39, O42; 60_exceptions.md R217, R219, R220): it ends in the one
operation that takes an exception. -/

namespace Sys2Proof.Machine

/-- Settles O38: the state that `takeException` answers is the one R217, R219 and R220 describe. -/
theorem takingAnExceptionSavesTheRestartAddress : Obligations.TakingAnExceptionSavesTheRestartAddress := by
  intro s r
  exact ⟨s.withException r, rfl, s.withException_takes r⟩

/-- An instruction that leaves a new outcome has taken an exception, and is no jump or branch: no other end of an
instruction writes the outcome. -/
theorem Leaves.takes_of_raised {i : Instr} {s t : State} (h : Leaves i s t) (hs : s.raised = none)
    (ht : t.raised ≠ none) : i.family ≠ .jump ∧ ∃ r, t = s.withException r := by
  cases h with
  | raises hf r => exact ⟨hf, r, rfl⟩
  | computes | loads | stores | jumps | links => exact absurd (by simpa using hs) ht

/-- A step that goes on to a recorded outcome has taken an exception: at the fetch, for a reserved word, or in the
instruction it runs. -/
theorem step_takes_of_raised {s t : State} (h : step s = .next t) (ht : t.raised ≠ none) :
    ∃ r, t = s.withException r := by
  obtain ⟨hs, ⟨r, -, rfl⟩ | ⟨w, -, -, rfl⟩ | ⟨w, i, -, -, he⟩⟩ := step_next s t h
  · exact ⟨r, rfl⟩
  · exact ⟨_, rfl⟩
  · exact ((exec_next i s t he).takes_of_raised hs ht).2

/-- Settles O39: whatever the step was, it left the state of the one operation that takes an exception. -/
theorem raisingStepMakesNoOwnWrites : Obligations.RaisingStepMakesNoOwnWrites := by
  intro s t h ht
  obtain ⟨r, rfl⟩ := step_takes_of_raised h ht
  exact ⟨r.kind, r.badVAddr, r.access, s.withException_takes r⟩

/-- A state with a recorded outcome fetches nothing (60_exceptions.md R220, log 9). -/
theorem step_of_raised {t : State} {info : ExceptionInfo} (h : t.raised = some info) :
    step t = .fault (.exceptionOutcome info t.epc) := by
  have hf : t.fetch = .ended (.exceptionOutcome info t.epc) := by simp [State.fetch, h]
  simp [step, hf]

/-- Settles O42: the next step answers the record, whose BD and EPC are those of the state that raised. -/
theorem theRunEndsAtTheException : Obligations.TheRunEndsAtTheException := by
  intro s t h info hinfo
  refine ⟨step_of_raised hinfo, ?_⟩
  obtain ⟨r, rfl⟩ := step_takes_of_raised h (by simp [hinfo])
  obtain ⟨hraised, hepc, -⟩ := s.withException_takes r
  obtain rfl : ExceptionInfo.mk r.kind s.inDelay r.badVAddr r.access = info :=
    Option.some.inj (hraised.symm.trans hinfo)
  exact ⟨rfl, hepc⟩

end Sys2Proof.Machine
end

section
/-! PROOFS. Which instruction can raise which exception (O40; 60_exceptions.md R210 to R216). -/

namespace Sys2Proof.Machine

/-- The exceptions a reference to memory can raise (60_exceptions.md R213 to R215). -/
def ReferenceMayRaise (a : Access) (kind : ExceptionKind) : Prop :=
  kind ∈ [ExceptionKind.addressError, .tlbRefill, .tlbInvalid, .busError] ∨ kind = .tlbModification ∧ a = .store

/-- The exceptions an instruction can raise on an implementation group (60_exceptions.md R210 to R216). -/
def MayRaise (i : Instr) (impl : Impl) (kind : ExceptionKind) : Prop :=
  match kind with
  | .overflow => ∃ x y, (∃ z, i = .add x y z ∨ i = .sub x y z) ∨ ∃ z, i = .addi x y z
  | .breakpoint => ∃ code, i = .brk code
  | .addressError | .tlbRefill | .tlbInvalid | .busError => i.family = .load ∨ i.family = .store
  | .tlbModification => i.family = .store
  | .reservedInstruction => i.mark = .alpha ∧ impl = .r2000R3000

theorem MayRaise.of_load {i : Instr} {impl : Impl} {kind : ExceptionKind} (hf : i.family = .load)
    (h : ReferenceMayRaise .load kind) : MayRaise i impl kind := by
  obtain hmem | ⟨-, hstore⟩ := h
  · simp only [List.mem_cons, List.not_mem_nil, or_false] at hmem
    obtain rfl | rfl | rfl | rfl := hmem <;> exact .inl hf
  · cases hstore

theorem MayRaise.of_store {i : Instr} {impl : Impl} {kind : ExceptionKind} (hf : i.family = .store)
    (h : ReferenceMayRaise .store kind) : MayRaise i impl kind := by
  obtain hmem | ⟨rfl, -⟩ := h
  · simp only [List.mem_cons, List.not_mem_nil, or_false] at hmem
    obtain rfl | rfl | rfl | rfl := hmem <;> exact .inr hf
  · exact hf

/-! ## The exceptions of a reference to memory -/

theorem Raise.misaligned_mayRaise (v : Word) (a : Access) : ReferenceMayRaise a (Raise.misaligned v a).kind := by
  simp [ReferenceMayRaise, Raise.misaligned]

theorem Raise.bus_mayRaise (a : Access) : ReferenceMayRaise a (Raise.bus a).kind := by
  simp [ReferenceMayRaise, Raise.bus]

/-- AddressTranslation raises TLB modification for stores only (20_memory.md R32). -/
theorem addressTranslation_mayRaise {c : Config} {v : Word} {a : Access} {r : Raise}
    (h : addressTranslation c v a = .error r) : ReferenceMayRaise a r.kind := by
  obtain ⟨-, -, hmod, hmem⟩ := (translationKeepsLowBits c v a).2 r h
  simp only [List.mem_cons, List.not_mem_nil, or_false] at hmem
  obtain hk | hk | hk | hk := hmem
  · simp [ReferenceMayRaise, hk]
  · simp [ReferenceMayRaise, hk]
  · exact .inr ⟨hk, hmod hk⟩
  · simp [ReferenceMayRaise, hk]

theorem State.loadMemory_mayRaise {s : State} {u : Bool} {ty : AccessType} {p : PAddr} {a : Access} {r : Raise}
    (h : s.loadMemory u ty p a = .error r) : ReferenceMayRaise a r.kind := by
  obtain ⟨-, hm⟩ | ⟨-, hm⟩ := s.loadMemory_eq u ty p a
  · cases hm.symm.trans h
    exact Raise.bus_mayRaise a
  · cases hm.symm.trans h

theorem State.storeMemory_mayRaise {s : State} {u : Bool} {ty : AccessType} {d : Word} {p : PAddr} {a : Access}
    {r : Raise} (h : s.storeMemory u ty d p a = .error r) : ReferenceMayRaise a r.kind := by
  obtain ⟨-, hm⟩ | ⟨-, hm⟩ := s.storeMemory_eq u ty d p a
  · cases hm.symm.trans h
    exact Raise.bus_mayRaise a
  · cases hm.symm.trans h

section
variable {s : State} {mask : BitVec 2} {place : PAddr → PAddr} {v : Word} {r : Raise}

/-- A load raises at the alignment check, at translation or in LoadMemory (40_load_store.md R101). -/
theorem State.loadLanes_mayRaise {ty : AccessType} (h : s.loadLanes mask ty place v = .error r) :
    ReferenceMayRaise .load r.kind := by
  unfold State.loadLanes at h
  split at h
  · split at h
    · cases h
      exact addressTranslation_mayRaise ‹_›
    · exact State.loadMemory_mayRaise h
  · cases h
    exact Raise.misaligned_mayRaise v .load

theorem State.storeAddress_mayRaise (h : s.storeAddress mask place v = .error r) :
    ReferenceMayRaise .store r.kind := by
  unfold State.storeAddress at h
  split at h
  · split at h
    · cases h
      exact addressTranslation_mayRaise ‹_›
    · cases h
  · cases h
    exact Raise.misaligned_mayRaise v .store

/-- A store raises where its address is formed, or in StoreMemory (40_load_store.md R102). -/
theorem State.storeLanes_mayRaise {ty : AccessType} {d : Word} (h : s.storeLanes mask ty place v d = .error r) :
    ReferenceMayRaise .store r.kind := by
  unfold State.storeLanes at h
  split at h
  · cases h
    exact State.storeAddress_mayRaise ‹_›
  · exact State.storeMemory_mayRaise h

end

/-! ## What the ends of an instruction raise -/

section
variable {i : Instr} {s t : State} {info : ExceptionInfo}

theorem State.kind_of_takeException {r : Raise} (h : s.takeException r = .next t) (ht : t.raised = some info) :
    info.kind = r.kind := by
  rw [s.takeException_next t r h, State.withException_raised] at ht
  cases ht
  rfl

theorem MayRaise.of_finish {rd : Reg} {v : Word} (hs : s.raised = none) (h : s.finish rd v = .next t)
    (ht : t.raised = some info) : MayRaise i s.cfg.impl info.kind := by
  rw [s.finish_next t rd v h] at ht
  simp [hs] at ht

/-- ADD, ADDI and SUB raise Overflow and nothing else (60_exceptions.md R211). -/
theorem MayRaise.of_trapOrFinish {overflows : Bool} {rd : Reg} {v : Word}
    (hi : MayRaise i s.cfg.impl .overflow) (hs : s.raised = none)
    (h : (if overflows then s.takeException (.plain .overflow) else s.finish rd v) = .next t)
    (ht : t.raised = some info) : MayRaise i s.cfg.impl info.kind := by
  split at h
  · exact (State.kind_of_takeException h ht).symm ▸ hi
  · exact .of_finish hs h ht

/-- A load raises the exceptions of its reference (60_exceptions.md R213 to R215). -/
theorem MayRaise.of_finishLanes {rt : Reg} {mask : BitVec 2} {ty : AccessType} {place : PAddr → PAddr} {v : Word}
    {value : Lanes → Word} (hf : i.family = .load) (hs : s.raised = none)
    (h : s.finishLanes rt (s.loadLanes mask ty place v) value = .next t) (ht : t.raised = some info) :
    MayRaise i s.cfg.impl info.kind := by
  obtain ⟨e, he, rfl⟩ | ⟨m, -, rfl⟩ := s.finishLanes_next t rt _ value h
  · exact (State.kind_of_takeException rfl ht).symm ▸ .of_load hf (State.loadLanes_mayRaise he)
  · simp [hs] at ht

/-- A store raises the exceptions of its reference (60_exceptions.md R213 to R215). -/
theorem MayRaise.of_finishStore {mask : BitVec 2} {ty : AccessType} {place : PAddr → PAddr} {v d : Word}
    (hf : i.family = .store) (hs : s.raised = none)
    (h : s.finishStore (s.storeLanes mask ty place v d) = .next t) (ht : t.raised = some info) :
    MayRaise i s.cfg.impl info.kind := by
  obtain ⟨e, he, rfl⟩ | ⟨u, hu, rfl⟩ := s.finishStore_next t _ h
  · exact (State.kind_of_takeException rfl ht).symm ▸ .of_store hf (State.storeLanes_mayRaise he)
  · obtain ⟨p, -, -, -, rfl⟩ := s.storeLanes_ok u mask ty place v d hu
    simp [hs] at ht

/-- An alpha row raises Reserved Instruction, on the R2000/R3000 (60_exceptions.md R216). -/
theorem MayRaise.of_alphaRow {why : Refusal} (hm : i.mark = .alpha) (h : alphaRow (.refused why) s = .next t)
    (ht : t.raised = some info) : MayRaise i s.cfg.impl info.kind := by
  obtain ⟨hi, rfl⟩ := alphaRow_next _ s t (by simp) h
  exact (State.kind_of_takeException rfl ht).symm ▸ ⟨hm, hi⟩

end

/-! ## All instructions -/

/-- Every exception that an instruction records is one it may raise. -/
theorem exec_mayRaise {i : Instr} {s t : State} {info : ExceptionInfo} (hs : s.raised = none)
    (h : exec i s = .next t) (ht : t.raised = some info) : MayRaise i s.cfg.impl info.kind := by
  cases i with
  | add x y z => exact .of_trapOrFinish ⟨x, y, .inl ⟨z, .inl rfl⟩⟩ hs h ht
  | sub x y z => exact .of_trapOrFinish ⟨x, y, .inl ⟨z, .inr rfl⟩⟩ hs h ht
  | addi x y z => exact .of_trapOrFinish ⟨x, y, .inr ⟨z, rfl⟩⟩ hs h ht
  | addiu | addu | subu | and | andi | or | ori | xor | xori | nor | lui | slt | slti | sltiu | sltu
  | sll | sllv | srl | srlv | sra | srav => exact .of_finish hs h ht
  | lb | lbu | lh | lhu | lw | lwl | lwr => exact .of_finishLanes rfl hs h ht
  | sb | sh | sw | swl | swr => exact .of_finishStore rfl hs h ht
  | beq | bne | j | jr | jal | jalr => exact absurd rfl ((exec_next _ s t h).takes_of_raised hs (by simp [ht])).1
  | brk code => exact (State.kind_of_takeException h ht).symm ▸ ⟨code, rfl⟩
  | beql | bnel | blezl | ldc1 | ldc2 | sdc1 | sdc2 | tge | tgeu | tlt | tltu | teq | tne =>
    exact .of_alphaRow rfl h ht
  | bltzl | bgezl | tgei | teqi | tnei | bltzall | bgezall | tgeiu | tlti | tltiu =>
    exact absurd h (betaRow_ne_next _ s t)
  | blez | cop0 | cop1 | cop2 | cop3 | ll | lwc1 | lwc2 | lwc3 | sc | swc1 | swc2 | swc3
  | syscall | mfhi | mthi | mflo | mtlo | mult | multu | div | divu
  | bltz | bgez | bltzal | bgezal => nomatch h

/-- Every row marked alpha runs as an alpha row (30_encoding.md R70); no COPz word carries the mark. -/
theorem exec_eq_alphaRow {i : Instr} (hm : i.mark = .alpha) :
    ∃ why, ∀ s, exec i s = alphaRow (.refused why) s := by
  cases i with
  | beql | bnel | blezl | ldc1 | ldc2 | sdc1 | sdc2 | tge | tgeu | tlt | tltu | teq | tne => exact ⟨_, fun _ => rfl⟩
  | cop0 rest | cop1 rest | cop2 rest | cop3 rest => exact absurd hm (copForm rest).mark_ne_alpha
  | _ => cases hm

/-- Settles O40: what each instruction may raise; BREAK and the alpha rows raise nothing else. -/
theorem exceptionsComeFromTheirInstructions : Obligations.ExceptionsComeFromTheirInstructions := by
  intro i s t info hs h ht
  have hmay : MayRaise i s.cfg.impl info.kind := exec_mayRaise hs h ht
  refine ⟨fun hk => by rwa [hk] at hmay, ⟨fun hk => by rwa [hk] at hmay, ?brk⟩, fun hk => ?memory,
    fun hk => by rwa [hk] at hmay, ⟨fun hk => by rwa [hk] at hmay, ?alpha⟩⟩
  case brk =>
    rintro ⟨code, rfl⟩
    exact State.kind_of_takeException h ht
  case memory =>
    simp only [List.mem_cons, List.not_mem_nil, or_false] at hk
    obtain hk | hk | hk | hk := hk <;> rwa [hk] at hmay
  case alpha =>
    rintro ⟨hm, -⟩
    obtain ⟨why, hrow⟩ := exec_eq_alphaRow hm
    obtain ⟨-, rfl⟩ := alphaRow_next _ s t (by simp) ((hrow s).symm.trans h)
    exact State.kind_of_takeException rfl ht

end Sys2Proof.Machine
end

section
/-! PROOFS. JALR with equal registers (O35; 70_reset_and_hazards.md R259), and the undefined contents of a register that
a load is delivering (O11; R255, R260, log 7 and 8). -/

namespace Sys2Proof.Machine

/-! ## JALR with equal registers -/

/-- Every jump but JALR with equal registers leaves `jumped i s`, after the check of the delay slot. -/
theorem exec_jump_of_ne_jalr_self {i : Instr} (hf : i.family = .jump) (hne : ∀ r, i ≠ .jalr r r) (s : State) :
    exec i s = s.jumpStep (.next (jumped i s)) := by
  cases i with
  | beq | bne | j | jr => rw [jumped_of_no_link rfl]; rfl
  | jal => rfl
  | jalr rd rs => exact exec_jalr_of_ne (fun h => hne rd (congrArg (Instr.jalr rd) h)) s
  | _ => cases hf

/-- The fault of JALR passes the check of the delay slot, which comes first (10_state.md R16 line 5). -/
theorem State.jumpStep_eq_jalrSameRegister_iff (s : State) (o : Outcome) :
    s.jumpStep o = .fault .jalrSameRegister ↔ o = .fault .jalrSameRegister ∧ s.inDelay = false := by
  unfold State.jumpStep
  cases s.inDelay with
  | true => simp
  | false => simp

/-- Every instruction but JALR with equal registers goes on, is refused, or faults in a delay slot. -/
theorem exec_ne_jalrSameRegister {i : Instr} (hne : ∀ r, i ≠ .jalr r r) (s : State) :
    exec i s ≠ .fault .jalrSameRegister := by
  by_cases hf : i.family = .jump
  · rw [exec_jump_of_ne_jalr_self hf hne, ne_eq, s.jumpStep_eq_jalrSameRegister_iff]
    exact fun ⟨hnext, _⟩ => nomatch hnext
  · exact exec_ne_fault s _ hf

/-- Settles O35: JALR with equal registers has no outcome but the fault, and no other instruction has this fault. -/
theorem jalrWithEqualRegistersIsUndefined : Obligations.JalrWithEqualRegistersIsUndefined := by
  intro i s
  by_cases hself : ∃ r, i = .jalr r r
  · rw [and_iff_right hself]
    obtain ⟨r, rfl⟩ := hself
    rw [exec_jalr_self, s.jumpStep_eq_jalrSameRegister_iff, and_iff_right rfl]
  · exact iff_of_false (exec_ne_jalrSameRegister (not_exists.mp hself) s) fun ⟨hr, _⟩ => hself hr

/-! ## The register that a load is delivering -/

section
variable {s : State} {r : Reg} {v : Word}

/-- In its load delay a register yields the free value of the operand's place (70_reset_and_hazards.md R255, log 7);
register 0 has none and reads zero. -/
theorem State.readOperand_of_pending (h : s.pending = some (r, v)) (place : Place) :
    s.readOperand place r = if r = 0#5 then 0#32 else s.undefinedWord place := by
  rw [State.readOperand, if_pos ((s.inLoadDelay_iff r).mpr ⟨v, h⟩)]

/-- Two writes at one time step leave the free value of the result (70_reset_and_hazards.md R260, log 8); register 0
still reads zero. -/
theorem State.readGpr_writeResult_of_pending (h : s.pending = some (r, v)) (w : Word) :
    (s.writeResult r w).readGpr r = if r = 0#5 then 0#32 else s.undefinedWord .result := by
  by_cases hr : r = 0#5
  · subst hr
    rw [State.readGpr_zero, if_pos rfl]
  · rw [State.readGpr_writeResult, if_pos ⟨rfl, hr⟩, if_pos ((s.inLoadDelay_iff r).mpr ⟨v, h⟩), if_neg hr]

end

/-- Settles O11: the free value is drawn by the counter and the place, which the contents of registers and of the
pending load leave as they are. -/
theorem undefinedContentsAreFree : Obligations.UndefinedContentsAreFree := by
  intro s place r old old' v v' w w'
  refine ⟨?_, ?_, fun hdef => State.readOperand_of_defined hdef place⟩
  · rw [State.readOperand_of_pending rfl, State.readOperand_of_pending rfl]
    rfl
  · rw [State.readGpr_writeResult_of_pending rfl, State.readGpr_writeResult_of_pending rfl]
    rfl

end Sys2Proof.Machine
end
